-- ==== Sys2Proof/Word.lean ====
section
/-! DEFINITION. The word types of the machine: widths of 00_scope.md R6. -/

namespace Sys2Proof

/-- An 8-bit register, memory cell, port byte or instruction byte (R6, R20, R60). -/
abbrev Byte := BitVec 8

/-- A 15-bit memory address: page bits 14..13 and offset bits 12..0 (R27, R60, R61). -/
abbrev Addr := BitVec 15

/-- A 13-bit offset within a page (R61). -/
abbrev Offset := BitVec 13

/-- The 7-bit two's complement displacement field of formats R and ER (R98, R102). -/
abbrev Disp := BitVec 7

end Sys2Proof
end

