-- ==== Sys2Proof/Syntax.lean ====
section
/-! DEFINITION. The instructions: one constructor for each row of spec/opcode_table.json. -/

namespace Sys2Proof

/-- The register field `rr` (R91): r1, r2, r3 are those of the selected bank (R22). -/
inductive Reg where
  | r0
  | r1
  | r2
  | r3
  deriving DecidableEq, Repr

/-- The condition field `v` (R111), by its assembler names. -/
inductive Cond where
  | eq
  | gt
  | lt
  | un
  deriving DecidableEq, Repr

/-- The index control field of format A (R99): not indexed, with auto-increment, with auto-decrement, indexed only. -/
inductive IndexCtl where
  | none
  | inc
  | dec
  | plain
  deriving DecidableEq, Repr

/-- An instruction, each field as decoded; `i` is the indirect bit. Where the spec forbids r0 (LODZ, STRZ, ANDZ) or the
condition `un` (BCFR, BCFA, BSFR, BSFA), `Instr.wellFormed` says so. The last rows are the first bytes the spec calls
undefined or indeterminate (R122, R123). -/
inductive Instr where
  /-- `LDPL (*)a`: 00010000 ippaaaaa aaaaaaaa (R250). -/
  | ldpl (i : Bool) (a : Addr)
  /-- `STPL (*)a`: 00010001 ippaaaaa aaaaaaaa (R251). -/
  | stpl (i : Bool) (a : Addr)
  /-- `SPSU`: 00010010 (R243). -/
  | spsu
  /-- `SPSL`: 00010011 (R244). -/
  | spsl
  /-- `HALT`: 01000000 (R263). -/
  | halt
  /-- `CPSU v`: 01110100 vvvvvvvv (R245). -/
  | cpsu (m : Byte)
  /-- `CPSL v`: 01110101 vvvvvvvv (R246). -/
  | cpsl (m : Byte)
  /-- `PPSU v`: 01110110 vvvvvvvv (R247). -/
  | ppsu (m : Byte)
  /-- `PPSL v`: 01110111 vvvvvvvv (R248). -/
  | ppsl (m : Byte)
  /-- `LPSU`: 10010010 (R241). -/
  | lpsu
  /-- `LPSL`: 10010011 (R242). -/
  | lpsl
  /-- `ZBRR (*)a`: 10011011 iddddddd (R192). -/
  | zbrr (i : Bool) (d : Disp)
  /-- `BXA (*)a,r3`: 10011111 ippaaaaa aaaaaaaa (R191). -/
  | bxa (i : Bool) (a : Addr)
  /-- `TPSU v`: 10110100 vvvvvvvv (R249). -/
  | tpsu (m : Byte)
  /-- `TPSL v`: 10110101 vvvvvvvv (R252). -/
  | tpsl (m : Byte)
  /-- `ZBSR (*)a`: 10111011 iddddddd (R208). -/
  | zbsr (i : Bool) (d : Disp)
  /-- `BSXA (*)a,r3`: 10111111 ippaaaaa aaaaaaaa (R207). -/
  | bsxa (i : Bool) (a : Addr)
  /-- `NOP`: 11000000 (R262). -/
  | nop
  /-- First byte $00: indeterminate; "LODZ r0" (R123). -/
  | undef00
  /-- First byte $90: undefined (R122). -/
  | undef90
  /-- First byte $91: undefined (R122). -/
  | undef91
  /-- First byte $B6: undefined (R122). -/
  | undefB6
  /-- First byte $B7: undefined (R122). -/
  | undefB7
  /-- First byte $C4: undefined (R122). -/
  | undefC4
  /-- First byte $C5: undefined (R122). -/
  | undefC5
  /-- First byte $C6: undefined (R122). -/
  | undefC6
  /-- First byte $C7: undefined (R122). -/
  | undefC7
  /-- `LODZ r`: 000000rr (R141). -/
  | lodz (r : Reg)
  /-- `LODI,r v`: 000001rr vvvvvvvv (R142). -/
  | lodi (r : Reg) (v : Byte)
  /-- `LODR,r (*)a`: 000010rr iddddddd (R143). -/
  | lodr (r : Reg) (i : Bool) (d : Disp)
  /-- `LODA,r (*)a(,X)`: 000011rr iccaaaaa aaaaaaaa (R144). -/
  | loda (r : Reg) (i : Bool) (x : IndexCtl) (a : Offset)
  /-- `RETC,v`: 000101vv (R209). -/
  | retc (v : Cond)
  /-- `BCTR,v (*)a`: 000110vv iddddddd (R181). -/
  | bctr (v : Cond) (i : Bool) (d : Disp)
  /-- `BCTA,v (*)a`: 000111vv ippaaaaa aaaaaaaa (R182). -/
  | bcta (v : Cond) (i : Bool) (a : Addr)
  /-- `EORZ r`: 001000rr (R170). -/
  | eorz (r : Reg)
  /-- `EORI,r v`: 001001rr vvvvvvvv (R171). -/
  | eori (r : Reg) (v : Byte)
  /-- `EORR,r (*)a`: 001010rr iddddddd (R172). -/
  | eorr (r : Reg) (i : Bool) (d : Disp)
  /-- `EORA,r (*)a(,X)`: 001011rr iccaaaaa aaaaaaaa (R173). -/
  | eora (r : Reg) (i : Bool) (x : IndexCtl) (a : Offset)
  /-- `REDC,r`: 001100rr (R231). -/
  | redc (r : Reg)
  /-- `RETE,v`: 001101vv (R210). -/
  | rete (v : Cond)
  /-- `BSTR,v (*)a`: 001110vv iddddddd (R201). -/
  | bstr (v : Cond) (i : Bool) (d : Disp)
  /-- `BSTA,v (*)a`: 001111vv ippaaaaa aaaaaaaa (R202). -/
  | bsta (v : Cond) (i : Bool) (a : Addr)
  /-- `ANDZ r`: 010000rr (R174). -/
  | andz (r : Reg)
  /-- `ANDI,r v`: 010001rr vvvvvvvv (R175). -/
  | andi (r : Reg) (v : Byte)
  /-- `ANDR,r (*)a`: 010010rr iddddddd (R176). -/
  | andr (r : Reg) (i : Bool) (d : Disp)
  /-- `ANDA,r (*)a(,X)`: 010011rr iccaaaaa aaaaaaaa (R177). -/
  | anda (r : Reg) (i : Bool) (x : IndexCtl) (a : Offset)
  /-- `RRR,r`: 010100rr (R261). -/
  | rrr (r : Reg)
  /-- `REDE,r v`: 010101rr vvvvvvvv (R235). -/
  | rede (r : Reg) (port : Byte)
  /-- `BRNR,r (*)a`: 010110rr iddddddd (R185). -/
  | brnr (r : Reg) (i : Bool) (d : Disp)
  /-- `BRNA,r (*)a`: 010111rr ippaaaaa aaaaaaaa (R186). -/
  | brna (r : Reg) (i : Bool) (a : Addr)
  /-- `IORZ r`: 011000rr (R166). -/
  | iorz (r : Reg)
  /-- `IORI,r v`: 011001rr vvvvvvvv (R167). -/
  | iori (r : Reg) (v : Byte)
  /-- `IORR,r (*)a`: 011010rr iddddddd (R168). -/
  | iorr (r : Reg) (i : Bool) (d : Disp)
  /-- `IORA,r (*)a(,X)`: 011011rr iccaaaaa aaaaaaaa (R169). -/
  | iora (r : Reg) (i : Bool) (x : IndexCtl) (a : Offset)
  /-- `REDD,r`: 011100rr (R232). -/
  | redd (r : Reg)
  /-- `BSNR,r (*)a`: 011110rr iddddddd (R205). -/
  | bsnr (r : Reg) (i : Bool) (d : Disp)
  /-- `BSNA,r (*)a`: 011111rr ippaaaaa aaaaaaaa (R206). -/
  | bsna (r : Reg) (i : Bool) (a : Addr)
  /-- `ADDZ r`: 100000rr (R155). -/
  | addz (r : Reg)
  /-- `ADDI,r v`: 100001rr vvvvvvvv (R156). -/
  | addi (r : Reg) (v : Byte)
  /-- `ADDR,r (*)a`: 100010rr iddddddd (R157). -/
  | addr (r : Reg) (i : Bool) (d : Disp)
  /-- `ADDA,r (*)a(,X)`: 100011rr iccaaaaa aaaaaaaa (R158). -/
  | adda (r : Reg) (i : Bool) (x : IndexCtl) (a : Offset)
  /-- `DAR,r`: 100101rr (R265). -/
  | dar (r : Reg)
  /-- `BCFR,v (*)a`: 100110vv iddddddd (R183). -/
  | bcfr (v : Cond) (i : Bool) (d : Disp)
  /-- `BCFA,v (*)a`: 100111vv ippaaaaa aaaaaaaa (R184). -/
  | bcfa (v : Cond) (i : Bool) (a : Addr)
  /-- `SUBZ r`: 101000rr (R159). -/
  | subz (r : Reg)
  /-- `SUBI,r v`: 101001rr vvvvvvvv (R160). -/
  | subi (r : Reg) (v : Byte)
  /-- `SUBR,r (*)a`: 101010rr iddddddd (R161). -/
  | subr (r : Reg) (i : Bool) (d : Disp)
  /-- `SUBA,r (*)a(,X)`: 101011rr iccaaaaa aaaaaaaa (R162). -/
  | suba (r : Reg) (i : Bool) (x : IndexCtl) (a : Offset)
  /-- `WRTC,r`: 101100rr (R233). -/
  | wrtc (r : Reg)
  /-- `BSFR,v (*)a`: 101110vv iddddddd (R203). -/
  | bsfr (v : Cond) (i : Bool) (d : Disp)
  /-- `BSFA,v (*)a`: 101111vv ippaaaaa aaaaaaaa (R204). -/
  | bsfa (v : Cond) (i : Bool) (a : Addr)
  /-- `STRZ r`: 110000rr (R145). -/
  | strz (r : Reg)
  /-- `STRR,r (*)a`: 110010rr iddddddd (R146). -/
  | strr (r : Reg) (i : Bool) (d : Disp)
  /-- `STRA,r (*)a(,X)`: 110011rr iccaaaaa aaaaaaaa (R147). -/
  | stra (r : Reg) (i : Bool) (x : IndexCtl) (a : Offset)
  /-- `RRL,r`: 110100rr (R260). -/
  | rrl (r : Reg)
  /-- `WRTE,r v`: 110101rr vvvvvvvv (R236). -/
  | wrte (r : Reg) (port : Byte)
  /-- `BIRR,r (*)a`: 110110rr iddddddd (R187). -/
  | birr (r : Reg) (i : Bool) (d : Disp)
  /-- `BIRA,r (*)a`: 110111rr ippaaaaa aaaaaaaa (R188). -/
  | bira (r : Reg) (i : Bool) (a : Addr)
  /-- `COMZ r`: 111000rr (R221). -/
  | comz (r : Reg)
  /-- `COMI,r v`: 111001rr vvvvvvvv (R222). -/
  | comi (r : Reg) (v : Byte)
  /-- `COMR,r (*)a`: 111010rr iddddddd (R223). -/
  | comr (r : Reg) (i : Bool) (d : Disp)
  /-- `COMA,r (*)a(,X)`: 111011rr iccaaaaa aaaaaaaa (R224). -/
  | coma (r : Reg) (i : Bool) (x : IndexCtl) (a : Offset)
  /-- `WRTD,r`: 111100rr (R234). -/
  | wrtd (r : Reg)
  /-- `TMI,r v`: 111101rr vvvvvvvv (R264). -/
  | tmi (r : Reg) (m : Byte)
  /-- `BDRR,r (*)a`: 111110rr iddddddd (R189). -/
  | bdrr (r : Reg) (i : Bool) (d : Disp)
  /-- `BDRA,r (*)a`: 111111rr ippaaaaa aaaaaaaa (R190). -/
  | bdra (r : Reg) (i : Bool) (a : Addr)
  deriving DecidableEq, Repr

end Sys2Proof
end

