-- ==== Sys2Proof/WellFormed.lean ====
section
/-! DEFINITION. Which terms of `Instr` are instructions: the register and condition values the spec excludes. -/

namespace Sys2Proof

/-- LODZ, STRZ and ANDZ cannot name r0 (R24: those bytes are indeterminate, NOP and HALT); BCFR, BCFA, BSFR and BSFA
cannot be unconditional (R95, R111: those bytes are ZBRR, BXA, ZBSR, BSXA). Every other field has an encoding for each
value of its type. -/
def Instr.wellFormed : Instr → Bool
  | .lodz r | .strz r | .andz r => r != .r0
  | .bcfr v _ _ | .bcfa v _ _ | .bsfr v _ _ | .bsfa v _ _ => v != .un
  | .ldpl _ _ | .stpl _ _ | .spsu | .spsl | .halt | .cpsu _ | .cpsl _ | .ppsu _ | .ppsl _ | .lpsu | .lpsl
  | .zbrr _ _ | .bxa _ _ | .tpsu _ | .tpsl _ | .zbsr _ _ | .bsxa _ _ | .nop
  | .undef00 | .undef90 | .undef91 | .undefB6 | .undefB7 | .undefC4 | .undefC5 | .undefC6 | .undefC7
  | .lodi _ _ | .lodr _ _ _ | .loda _ _ _ _ | .retc _ | .bctr _ _ _ | .bcta _ _ _
  | .eorz _ | .eori _ _ | .eorr _ _ _ | .eora _ _ _ _ | .redc _ | .rete _ | .bstr _ _ _ | .bsta _ _ _
  | .andi _ _ | .andr _ _ _ | .anda _ _ _ _ | .rrr _ | .rede _ _ | .brnr _ _ _ | .brna _ _ _
  | .iorz _ | .iori _ _ | .iorr _ _ _ | .iora _ _ _ _ | .redd _ | .bsnr _ _ _ | .bsna _ _ _
  | .addz _ | .addi _ _ | .addr _ _ _ | .adda _ _ _ _ | .dar _
  | .subz _ | .subi _ _ | .subr _ _ _ | .suba _ _ _ _ | .wrtc _
  | .strr _ _ _ | .stra _ _ _ _ | .rrl _ | .wrte _ _ | .birr _ _ _ | .bira _ _ _
  | .comz _ | .comi _ _ | .comr _ _ _ | .coma _ _ _ _ | .wrtd _ | .tmi _ _ | .bdrr _ _ _ | .bdra _ _ _ => true

end Sys2Proof
end

