-- ==== Sys2Proof/Decode.lean ====
section
/-! DEFINITION. The decoder, total on any bytes, and the encoder, both from 30_encoding.md. -/

namespace Sys2Proof

/-! ### Fields -/

/-- The register number a 2-bit field names (R91). -/
def Reg.ofCode (c : BitVec 2) : Reg :=
  match c.toNat with
  | 0 => .r0
  | 1 => .r1
  | 2 => .r2
  | _ => .r3

/-- The 2-bit field of a register (R91). -/
def Reg.code : Reg → BitVec 2
  | .r0 => 0
  | .r1 => 1
  | .r2 => 2
  | .r3 => 3

/-- The condition a 2-bit field names (R111). -/
def Cond.ofCode (c : BitVec 2) : Cond :=
  match c.toNat with
  | 0 => .eq
  | 1 => .gt
  | 2 => .lt
  | _ => .un

/-- The 2-bit value of a condition: the one compared with CC (R111). -/
def Cond.code : Cond → BitVec 2
  | .eq => 0
  | .gt => 1
  | .lt => 2
  | .un => 3

/-- The index control a 2-bit field names (R99). -/
def IndexCtl.ofCode (c : BitVec 2) : IndexCtl :=
  match c.toNat with
  | 0 => .none
  | 1 => .inc
  | 2 => .dec
  | _ => .plain

/-- The 2-bit field of an index control (R99). -/
def IndexCtl.code : IndexCtl → BitVec 2
  | .none => 0
  | .inc => 1
  | .dec => 2
  | .plain => 3

/-- Bit 7 of byte 1: the indirect flag of formats R, A, B, ER, EB (R98 to R102). -/
def indBit (b1 : Byte) : Bool := b1.getLsbD 7

/-- Bits 6..0 of byte 1: the displacement of formats R and ER (R98, R102). -/
def disp7 (b1 : Byte) : Disp := b1.extractLsb' 0 7

/-- Bits 6..5 of byte 1: the index control of format A (R99). -/
def indexCtl (b1 : Byte) : IndexCtl := .ofCode (b1.extractLsb' 5 2)

/-- Bits 4..0 of byte 1 with byte 2: the 13-bit address of format A (R99). -/
def addr13 (b1 b2 : Byte) : Offset := b1.extractLsb' 0 5 ++ b2

/-- Bits 6..0 of byte 1 with byte 2: the 15-bit address of formats B and EB (R100, R102). -/
def addr15 (b1 b2 : Byte) : Addr := b1.extractLsb' 0 7 ++ b2

/-! ### Decoding -/

/-- The first bytes that have no meaning (30_encoding.md R122, R123). -/
def undefinedBytes : List Byte := [0x00, 0x90, 0x91, 0xB6, 0xB7, 0xC4, 0xC5, 0xC6, 0xC7]

/-- The length function of R93 as the rule writes it, by the class field `c` and the function field `f` of byte 0; none
where no length is defined. -/
def lengthOf (b0 : Byte) : Option Nat :=
  if b0 ∈ undefinedBytes then none
  else
    match (b0.extractLsb' 2 3).toNat with
    | 0 => some 1
    | 1 => some 2
    | 2 => some 2
    | 3 => some 3
    | 4 => if b0 = 0x10 ∨ b0 = 0x11 then some 3 else some 1
    | 5 => if (b0.extractLsb' 5 3).toNat ∈ [0, 1, 4] then some 1 else some 2
    | 6 => some 2
    | _ => some 3

/-- What byte 0 says: the whole instruction, or the instruction as a function of the bytes that follow. The shape is the
length function of R93; an undefined first byte has no further byte to read (R93: no length is defined). -/
inductive Template where
  | one (i : Instr)
  | two (k : Byte → Instr)
  | three (k : Byte → Byte → Instr)

/-- The instruction of a first byte, by its top six bits, its low two bits the register or condition field; where a
group of four holds full-byte opcodes or undefined bytes they are named one by one (R120, R121). The field of six bits
has no value past the last arm's, 63. -/
def template (b0 : Byte) : Template :=
  let r := Reg.ofCode (b0.extractLsb' 0 2)
  let v := Cond.ofCode (b0.extractLsb' 0 2)
  match (b0.extractLsb' 2 6).toNat with
  | 0x00 =>
    match r with
    | .r0 => .one .undef00
    | r => .one (.lodz r)
  | 0x01 => .two fun b1 => .lodi r b1
  | 0x02 => .two fun b1 => .lodr r (indBit b1) (disp7 b1)
  | 0x03 => .three fun b1 b2 => .loda r (indBit b1) (indexCtl b1) (addr13 b1 b2)
  | 0x04 =>
    match r with
    | .r0 => .three fun b1 b2 => .ldpl (indBit b1) (addr15 b1 b2)
    | .r1 => .three fun b1 b2 => .stpl (indBit b1) (addr15 b1 b2)
    | .r2 => .one .spsu
    | .r3 => .one .spsl
  | 0x05 => .one (.retc v)
  | 0x06 => .two fun b1 => .bctr v (indBit b1) (disp7 b1)
  | 0x07 => .three fun b1 b2 => .bcta v (indBit b1) (addr15 b1 b2)
  | 0x08 => .one (.eorz r)
  | 0x09 => .two fun b1 => .eori r b1
  | 0x0a => .two fun b1 => .eorr r (indBit b1) (disp7 b1)
  | 0x0b => .three fun b1 b2 => .eora r (indBit b1) (indexCtl b1) (addr13 b1 b2)
  | 0x0c => .one (.redc r)
  | 0x0d => .one (.rete v)
  | 0x0e => .two fun b1 => .bstr v (indBit b1) (disp7 b1)
  | 0x0f => .three fun b1 b2 => .bsta v (indBit b1) (addr15 b1 b2)
  | 0x10 =>
    match r with
    | .r0 => .one .halt
    | r => .one (.andz r)
  | 0x11 => .two fun b1 => .andi r b1
  | 0x12 => .two fun b1 => .andr r (indBit b1) (disp7 b1)
  | 0x13 => .three fun b1 b2 => .anda r (indBit b1) (indexCtl b1) (addr13 b1 b2)
  | 0x14 => .one (.rrr r)
  | 0x15 => .two fun b1 => .rede r b1
  | 0x16 => .two fun b1 => .brnr r (indBit b1) (disp7 b1)
  | 0x17 => .three fun b1 b2 => .brna r (indBit b1) (addr15 b1 b2)
  | 0x18 => .one (.iorz r)
  | 0x19 => .two fun b1 => .iori r b1
  | 0x1a => .two fun b1 => .iorr r (indBit b1) (disp7 b1)
  | 0x1b => .three fun b1 b2 => .iora r (indBit b1) (indexCtl b1) (addr13 b1 b2)
  | 0x1c => .one (.redd r)
  | 0x1d =>
    match r with
    | .r0 => .two fun b1 => .cpsu b1
    | .r1 => .two fun b1 => .cpsl b1
    | .r2 => .two fun b1 => .ppsu b1
    | .r3 => .two fun b1 => .ppsl b1
  | 0x1e => .two fun b1 => .bsnr r (indBit b1) (disp7 b1)
  | 0x1f => .three fun b1 b2 => .bsna r (indBit b1) (addr15 b1 b2)
  | 0x20 => .one (.addz r)
  | 0x21 => .two fun b1 => .addi r b1
  | 0x22 => .two fun b1 => .addr r (indBit b1) (disp7 b1)
  | 0x23 => .three fun b1 b2 => .adda r (indBit b1) (indexCtl b1) (addr13 b1 b2)
  | 0x24 =>
    match r with
    | .r0 => .one .undef90
    | .r1 => .one .undef91
    | .r2 => .one .lpsu
    | .r3 => .one .lpsl
  | 0x25 => .one (.dar r)
  | 0x26 =>
    match v with
    | .un => .two fun b1 => .zbrr (indBit b1) (disp7 b1)
    | v => .two fun b1 => .bcfr v (indBit b1) (disp7 b1)
  | 0x27 =>
    match v with
    | .un => .three fun b1 b2 => .bxa (indBit b1) (addr15 b1 b2)
    | v => .three fun b1 b2 => .bcfa v (indBit b1) (addr15 b1 b2)
  | 0x28 => .one (.subz r)
  | 0x29 => .two fun b1 => .subi r b1
  | 0x2a => .two fun b1 => .subr r (indBit b1) (disp7 b1)
  | 0x2b => .three fun b1 b2 => .suba r (indBit b1) (indexCtl b1) (addr13 b1 b2)
  | 0x2c => .one (.wrtc r)
  | 0x2d =>
    match r with
    | .r0 => .two fun b1 => .tpsu b1
    | .r1 => .two fun b1 => .tpsl b1
    | .r2 => .one .undefB6
    | .r3 => .one .undefB7
  | 0x2e =>
    match v with
    | .un => .two fun b1 => .zbsr (indBit b1) (disp7 b1)
    | v => .two fun b1 => .bsfr v (indBit b1) (disp7 b1)
  | 0x2f =>
    match v with
    | .un => .three fun b1 b2 => .bsxa (indBit b1) (addr15 b1 b2)
    | v => .three fun b1 b2 => .bsfa v (indBit b1) (addr15 b1 b2)
  | 0x30 =>
    match r with
    | .r0 => .one .nop
    | r => .one (.strz r)
  | 0x31 =>
    match r with
    | .r0 => .one .undefC4
    | .r1 => .one .undefC5
    | .r2 => .one .undefC6
    | .r3 => .one .undefC7
  | 0x32 => .two fun b1 => .strr r (indBit b1) (disp7 b1)
  | 0x33 => .three fun b1 b2 => .stra r (indBit b1) (indexCtl b1) (addr13 b1 b2)
  | 0x34 => .one (.rrl r)
  | 0x35 => .two fun b1 => .wrte r b1
  | 0x36 => .two fun b1 => .birr r (indBit b1) (disp7 b1)
  | 0x37 => .three fun b1 b2 => .bira r (indBit b1) (addr15 b1 b2)
  | 0x38 => .one (.comz r)
  | 0x39 => .two fun b1 => .comi r b1
  | 0x3a => .two fun b1 => .comr r (indBit b1) (disp7 b1)
  | 0x3b => .three fun b1 b2 => .coma r (indBit b1) (indexCtl b1) (addr13 b1 b2)
  | 0x3c => .one (.wrtd r)
  | 0x3d => .two fun b1 => .tmi r b1
  | 0x3e => .two fun b1 => .bdrr r (indBit b1) (disp7 b1)
  | _ => .three fun b1 b2 => .bdra r (indBit b1) (addr15 b1 b2)

/-- Why bytes are no instruction: they end before it does. -/
inductive DecodeError where
  | truncated
  deriving DecidableEq, Repr

/-- The instruction at the front of a list of bytes, with the bytes after it (R90, R121). Every first byte has a
template, so the one rejection is of a list that ends too early. -/
def decode : List Byte → Except DecodeError (Instr × List Byte)
  | [] => .error .truncated
  | b0 :: rest =>
    match template b0, rest with
    | .one i, rest => .ok (i, rest)
    | .two k, b1 :: rest => .ok (k b1, rest)
    | .three k, b1 :: b2 :: rest => .ok (k b1 b2, rest)
    | _, _ => .error .truncated

/-- The instruction whose bytes, the first in bits 7..0, are `w` below bit `nbits` and zero above it. -/
def decodeTableWord (nbits w : Nat) : Option Instr :=
  let x := w % 2 ^ nbits
  match decode [BitVec.ofNat 8 x, BitVec.ofNat 8 (x / 256), BitVec.ofNat 8 (x / 65536)] with
  | .ok (i, _) => some i
  | .error _ => none

/-! ### Encoding -/

/-- Byte 0 of a four-wide group: `oooooorr` (R96 to R100). -/
def opByte (op : BitVec 6) (rr : BitVec 2) : Byte := op ++ rr

/-- Byte 1 of formats R and ER: `iaaaaaaa` (R98, R102). -/
def relByte (i : Bool) (d : Disp) : Byte := BitVec.ofBool i ++ d

/-- Byte 1 of format A: `iccaaaaa` (R99). -/
def idxByte (i : Bool) (x : IndexCtl) (a : Offset) : Byte :=
  BitVec.ofBool i ++ (x.code ++ a.extractLsb' 8 5 : BitVec 7)

/-- Byte 2 of format A (R99). -/
def lowByte13 (a : Offset) : Byte := a.extractLsb' 0 8

/-- Byte 1 of formats B and EB: `ippaaaaa` (R100, R102). -/
def absByte (i : Bool) (a : Addr) : Byte := BitVec.ofBool i ++ a.extractLsb' 8 7

/-- Byte 2 of formats B and EB (R100, R102). -/
def lowByte15 (a : Addr) : Byte := a.extractLsb' 0 8

/-- The bytes of an instruction, from the encodings of R120 and the formats of R96 to R102. -/
def encode : Instr → List Byte
  | .ldpl i a => [0x10#8, absByte i a, lowByte15 a]
  | .stpl i a => [0x11#8, absByte i a, lowByte15 a]
  | .spsu => [0x12#8]
  | .spsl => [0x13#8]
  | .halt => [0x40#8]
  | .cpsu m => [0x74#8, m]
  | .cpsl m => [0x75#8, m]
  | .ppsu m => [0x76#8, m]
  | .ppsl m => [0x77#8, m]
  | .lpsu => [0x92#8]
  | .lpsl => [0x93#8]
  | .zbrr i d => [0x9b#8, relByte i d]
  | .bxa i a => [0x9f#8, absByte i a, lowByte15 a]
  | .tpsu m => [0xb4#8, m]
  | .tpsl m => [0xb5#8, m]
  | .zbsr i d => [0xbb#8, relByte i d]
  | .bsxa i a => [0xbf#8, absByte i a, lowByte15 a]
  | .nop => [0xc0#8]
  | .undef00 => [0x00#8]
  | .undef90 => [0x90#8]
  | .undef91 => [0x91#8]
  | .undefB6 => [0xb6#8]
  | .undefB7 => [0xb7#8]
  | .undefC4 => [0xc4#8]
  | .undefC5 => [0xc5#8]
  | .undefC6 => [0xc6#8]
  | .undefC7 => [0xc7#8]
  | .lodz r => [opByte 0b000000 r.code]
  | .lodi r b => [opByte 0b000001 r.code, b]
  | .lodr r i d => [opByte 0b000010 r.code, relByte i d]
  | .loda r i x a => [opByte 0b000011 r.code, idxByte i x a, lowByte13 a]
  | .retc v => [opByte 0b000101 v.code]
  | .bctr v i d => [opByte 0b000110 v.code, relByte i d]
  | .bcta v i a => [opByte 0b000111 v.code, absByte i a, lowByte15 a]
  | .eorz r => [opByte 0b001000 r.code]
  | .eori r b => [opByte 0b001001 r.code, b]
  | .eorr r i d => [opByte 0b001010 r.code, relByte i d]
  | .eora r i x a => [opByte 0b001011 r.code, idxByte i x a, lowByte13 a]
  | .redc r => [opByte 0b001100 r.code]
  | .rete v => [opByte 0b001101 v.code]
  | .bstr v i d => [opByte 0b001110 v.code, relByte i d]
  | .bsta v i a => [opByte 0b001111 v.code, absByte i a, lowByte15 a]
  | .andz r => [opByte 0b010000 r.code]
  | .andi r b => [opByte 0b010001 r.code, b]
  | .andr r i d => [opByte 0b010010 r.code, relByte i d]
  | .anda r i x a => [opByte 0b010011 r.code, idxByte i x a, lowByte13 a]
  | .rrr r => [opByte 0b010100 r.code]
  | .rede r b => [opByte 0b010101 r.code, b]
  | .brnr r i d => [opByte 0b010110 r.code, relByte i d]
  | .brna r i a => [opByte 0b010111 r.code, absByte i a, lowByte15 a]
  | .iorz r => [opByte 0b011000 r.code]
  | .iori r b => [opByte 0b011001 r.code, b]
  | .iorr r i d => [opByte 0b011010 r.code, relByte i d]
  | .iora r i x a => [opByte 0b011011 r.code, idxByte i x a, lowByte13 a]
  | .redd r => [opByte 0b011100 r.code]
  | .bsnr r i d => [opByte 0b011110 r.code, relByte i d]
  | .bsna r i a => [opByte 0b011111 r.code, absByte i a, lowByte15 a]
  | .addz r => [opByte 0b100000 r.code]
  | .addi r b => [opByte 0b100001 r.code, b]
  | .addr r i d => [opByte 0b100010 r.code, relByte i d]
  | .adda r i x a => [opByte 0b100011 r.code, idxByte i x a, lowByte13 a]
  | .dar r => [opByte 0b100101 r.code]
  | .bcfr v i d => [opByte 0b100110 v.code, relByte i d]
  | .bcfa v i a => [opByte 0b100111 v.code, absByte i a, lowByte15 a]
  | .subz r => [opByte 0b101000 r.code]
  | .subi r b => [opByte 0b101001 r.code, b]
  | .subr r i d => [opByte 0b101010 r.code, relByte i d]
  | .suba r i x a => [opByte 0b101011 r.code, idxByte i x a, lowByte13 a]
  | .wrtc r => [opByte 0b101100 r.code]
  | .bsfr v i d => [opByte 0b101110 v.code, relByte i d]
  | .bsfa v i a => [opByte 0b101111 v.code, absByte i a, lowByte15 a]
  | .strz r => [opByte 0b110000 r.code]
  | .strr r i d => [opByte 0b110010 r.code, relByte i d]
  | .stra r i x a => [opByte 0b110011 r.code, idxByte i x a, lowByte13 a]
  | .rrl r => [opByte 0b110100 r.code]
  | .wrte r b => [opByte 0b110101 r.code, b]
  | .birr r i d => [opByte 0b110110 r.code, relByte i d]
  | .bira r i a => [opByte 0b110111 r.code, absByte i a, lowByte15 a]
  | .comz r => [opByte 0b111000 r.code]
  | .comi r b => [opByte 0b111001 r.code, b]
  | .comr r i d => [opByte 0b111010 r.code, relByte i d]
  | .coma r i x a => [opByte 0b111011 r.code, idxByte i x a, lowByte13 a]
  | .wrtd r => [opByte 0b111100 r.code]
  | .tmi r b => [opByte 0b111101 r.code, b]
  | .bdrr r i d => [opByte 0b111110 r.code, relByte i d]
  | .bdra r i a => [opByte 0b111111 r.code, absByte i a, lowByte15 a]

end Sys2Proof
end

