-- ==== Sys2Proof/Config.lean ====
section
/-! DEFINITION. What an implementation or a platform fixes (00_scope.md R7), and the free values: constants without a
body for what the spec leaves open. -/

namespace Sys2Proof

/-- VARIANT of R7: whether opcodes $10 and $11 are instructions (D1). -/
inductive Variant where
  | p2650
  | p2650B
  deriving DecidableEq, Repr

/-- INDEX_WRAP of R7: what an index addition that carries out of the 13-bit offset does (R69, D13). -/
inductive IndexWrap where
  | wrap
  | refuse
  deriving DecidableEq, Repr

/-- What is connected at an address (R76). -/
inductive MemKind where
  | ram
  | rom
  | device
  | absent
  deriving DecidableEq, Repr

/-- A run of `size` addresses from `base` with one kind of memory: one record of MemMap (R76). -/
structure Region where
  base : Nat
  size : Nat
  kind : MemKind
  deriving DecidableEq, Repr

/-- The parameters of R7, fixed for one machine; no step changes them. The first region that holds an address says its
kind; an address in no region is RAM, the spec's default MemMap. -/
structure Config where
  variant : Variant
  indexWrap : IndexWrap
  memMap : List Region
  /-- CLOCK_PERIOD in nanoseconds; no rule of behaviour reads it (R7, R311). -/
  clockPeriodNs : Nat
  deriving DecidableEq, Repr

/-- The spec's defaults (R7): the 2650-B, wrap, 32768 bytes of RAM, 0.8 microseconds. -/
def Config.default : Config :=
  { variant := .p2650B, indexWrap := .wrap, memMap := [], clockPeriodNs := 800 }

/-- The condition code after DAR, "a meaningless value" (48_rotate_misc.md R265): fresh at each DAR. Log entry 11. -/
opaque Config.freeCC : Nat → BitVec 2

/-- A SENSE level past the end of the environment's script (10_state.md R35, 60_exceptions.md R272). Log entry 8. -/
opaque Config.freeSense : Nat → Bool

/-- A vector byte past the end of the environment's script (60_exceptions.md R276). Log entry 8. -/
opaque Config.freeIntVector : Nat → Byte

/-- The byte of an I/O read past the end of the environment's script (46_io.md R230). Log entry 8. -/
opaque Config.freeIoRead : Nat → Byte

/-- The byte of a read of a device or absent address past the end of the script (20_memory.md R76). Log entry 8. -/
opaque Config.freeMemRead : Nat → Byte

/-- The cycles an interrupt acceptance takes, which the spec says is not given (R279, R310). Log entry 13. -/
opaque Config.freeAcceptCycles : Nat → Nat

end Sys2Proof
end

