-- ==== Sys2Proof/Machine/State.lean ====
section
/-! DEFINITION. The state of the machine as plain data, the reasons a step can stop, and the state after reset. -/

namespace Sys2Proof.Machine

/-- Registers 1, 2 and 3 of one bank (10_state.md R21). -/
structure Bank where
  r1 : Byte
  r2 : Byte
  r3 : Byte
  deriving DecidableEq, Repr

/-- Program Status Lower, one field for each of its fields (10_state.md R40). All eight bits are latches that hold any
value, so the fields hold exactly a byte: `Psl.toByte`, `Psl.ofByte`. -/
structure Psl where
  /-- Condition code, bits 7..6 (R41). -/
  cc : BitVec 2
  /-- Interdigit carry, bit 5 (R43). -/
  idc : Bool
  /-- Register bank select, bit 4 (R22). -/
  rs : Bool
  /-- With carry, bit 3 (R45). -/
  wc : Bool
  /-- Overflow, bit 2 (R45). -/
  ovf : Bool
  /-- Logical compare, bit 1 (R44). -/
  com : Bool
  /-- Carry, bit 0 (R45). -/
  c : Bool
  deriving DecidableEq, Repr

/-- Memory: the cells whose byte is not the one an unlisted address reads as, addresses strictly rising
(`Memory.wf`). -/
abbrev Memory := List Host.Cell

/-- The three I/O spaces, the extended one with its port number (46_io.md R230). -/
inductive IoSpace where
  | ctrl
  | data
  | ext (port : Byte)
  deriving DecidableEq, Repr

/-- What the environment can observe (60_exceptions.md R272). Reads of ports and devices are recorded too, since they
may have side effects there (20_memory.md R82, 46_io.md R230). -/
inductive Event where
  /-- An I/O read transfer (R230). -/
  | ioRead (space : IoSpace)
  /-- An I/O write transfer with its byte (R230). -/
  | ioWrite (space : IoSpace) (v : Byte)
  /-- A read of a device address (R76). -/
  | deviceRead (a : Addr)
  /-- A write to a device address (R76). -/
  | deviceWrite (a : Addr) (v : Byte)
  /-- A write of the FLAG latch, with its level (R36). -/
  | flagPin (level : Bool)
  /-- A change of the RUN/WAIT line; `true` is WAIT (48_rotate_misc.md R263). -/
  | waitLine (wait : Bool)
  /-- The acknowledgement an accepted interrupt implies (R272, R276). -/
  | intAck
  deriving DecidableEq, Repr

/-- ResetState of 00_scope.md R7: the values a reset leaves unspecified (70_reset_and_hazards.md R301). -/
structure ResetValues where
  r0 : Byte
  bank0 : Bank
  bank1 : Bank
  flag : Bool
  sp : BitVec 3
  psl : Psl
  ras : Vector Addr 8
  deriving DecidableEq, Repr

/-- The environment oracle `Env` of 60_exceptions.md R272: each list holds the answers of the coming draws, in order.
What a draw past the end of its list answers stands with the draw, in Machine/Ops.lean. -/
structure Env where
  /-- The RESET line at the coming step boundaries; an event brings the values R301 leaves unspecified. -/
  resets : List (Option ResetValues)
  /-- The interrupt request level at the coming boundaries (R274). -/
  intReqs : List Bool
  /-- The vector bytes of the coming acceptances (R276). -/
  intVectors : List Byte
  /-- The SENSE level at the coming samples (R35). -/
  senses : List Bool
  /-- The bytes of the coming I/O reads (R230). -/
  ioReads : List Byte
  /-- The bytes of the coming reads of device and absent addresses (R76). -/
  memReads : List Byte
  deriving DecidableEq, Repr

/-- Everything the spec gives the machine (INVENTORY.md, State). -/
structure State where
  /-- Register zero, outside the banks (R21). -/
  r0 : Byte
  /-- BANK[0] (R21). -/
  bank0 : Bank
  /-- BANK[1] (R21). -/
  bank1 : Bank
  /-- The Instruction Address Register (R27). -/
  pc : Addr
  /-- Program Status Upper: S is not stored, F bit 6, II bit 5, bits 4..3 zero, SP bits 2..0 (R34). -/
  psu : Byte
  /-- Program Status Lower (R40). -/
  psl : Psl
  /-- The Return Address Stack (R47). -/
  ras : Vector Addr 8
  /-- The run/wait flag (R55). -/
  waiting : Bool
  /-- The memory space (R60). -/
  mem : Memory
  /-- The environment's coming answers (R272). -/
  env : Env
  /-- The outputs to the environment so far, oldest first (R272). -/
  trace : List Event
  /-- Processor cycles so far, an observer (R310, R311). -/
  cycles : Nat
  /-- The model's own counter, to which the free values of `Config` are applied. -/
  draws : Nat
  /-- The parameters of R7. -/
  cfg : Config
  deriving DecidableEq, Repr

/-- There is no fault: the 2650 has no synchronous exception, trap or fault of any kind (60_exceptions.md R270), and no
access faults (20_memory.md R76). No definition raises one. -/
inductive Fault where
  deriving DecidableEq, Repr

/-- Why a step has no next state. -/
inductive Refusal where
  /-- Raised by `exec` alone, for an instruction that has no meaning yet. Safe: the model stops. -/
  | notModelled (mnemonic : String)
  /-- Raised by the meanings of the undefined first bytes, and by LDPL and STPL on the plain 2650, as the spec's
  `refuse Undefined(b0)` (30_encoding.md R122, R123, R124). Safe: the model stops. -/
  | undefinedOpcode (b0 : Byte)
  /-- Raised by an index addition that carries out of the page offset when INDEX_WRAP is `refuse`, as the spec's
  `refuse IndexCrossesPage` (20_memory.md R69). Safe: the model stops. -/
  | indexCrossesPage
  /-- Raised by a meaning given a term that is no instruction (`Instr.wellFormed` is false of it), which the decoder
  never gives. Safe: the model stops. -/
  | illFormed
  deriving DecidableEq, Repr

/-- The environment with nothing scripted. -/
def Env.silent : Env :=
  { resets := [], intReqs := [], intVectors := [], senses := [], ioReads := [], memReads := [] }

/-- PSL with every bit 0. -/
def Psl.zero : Psl :=
  { cc := 0, idc := false, rs := false, wc := false, ovf := false, com := false, c := false }

/-- The values the model names for what R58 leaves unspecified: DESIGN CHOICE, log entry 2. -/
def ResetValues.zero : ResetValues :=
  { r0 := 0, bank0 := ⟨0, 0, 0⟩, bank1 := ⟨0, 0, 0⟩, flag := false, sp := 0, psl := Psl.zero,
    ras := Vector.replicate 8 0 }

/-- The machine after reset (10_state.md R58): pc 0, II 0, running; what R58 leaves unspecified is zero (log entry 2). -/
def State.reset : State :=
  { r0 := ResetValues.zero.r0
    bank0 := ResetValues.zero.bank0
    bank1 := ResetValues.zero.bank1
    pc := 0
    psu := 0
    psl := ResetValues.zero.psl
    ras := ResetValues.zero.ras
    waiting := false
    mem := []
    env := Env.silent
    trace := []
    cycles := 0
    draws := 0
    cfg := Config.default }

end Sys2Proof.Machine
end

