-- ==== Sys2Proof/Machine/Flags.lean ====
section
/-! DEFINITION. The fields of PSU and PSL, and every computation of a result and its flags. -/

namespace Sys2Proof.Machine

/-! ### Fields of the status word -/

/-- F, PSU bit 6 (10_state.md R36). -/
def State.flag (s : State) : Bool := s.psu.getLsbD 6

/-- II, PSU bit 5 (R37). -/
def State.ii (s : State) : Bool := s.psu.getLsbD 5

/-- SP, PSU bits 2..0 (R39). -/
def State.sp (s : State) : BitVec 3 := s.psu.extractLsb' 0 3

/-- The byte of a PSL: CC, IDC, RS, WC, OVF, COM, C from bit 7 down (R40). -/
def Psl.toByte (p : Psl) : Byte :=
  p.cc ++ (BitVec.ofBool p.idc ++ (BitVec.ofBool p.rs ++ (BitVec.ofBool p.wc ++ (BitVec.ofBool p.ovf ++
    (BitVec.ofBool p.com ++ BitVec.ofBool p.c : BitVec 2) : BitVec 3) : BitVec 4) : BitVec 5) : BitVec 6)

/-- The PSL of a byte (R40). -/
def Psl.ofByte (b : Byte) : Psl :=
  { cc := b.extractLsb' 6 2
    idc := b.getLsbD 5
    rs := b.getLsbD 4
    wc := b.getLsbD 3
    ovf := b.getLsbD 2
    com := b.getLsbD 1
    c := b.getLsbD 0 }

/-- A PSL with the bits that `m` has set cleared: `PSL & ~m` (47_psw.md R246). -/
def Psl.clear (p m : Psl) : Psl :=
  { cc := p.cc &&& ~~~m.cc
    idc := p.idc && !m.idc
    rs := p.rs && !m.rs
    wc := p.wc && !m.wc
    ovf := p.ovf && !m.ovf
    com := p.com && !m.com
    c := p.c && !m.c }

/-- A PSL with the bits that `m` has set set: `PSL | m` (R248). -/
def Psl.preset (p m : Psl) : Psl :=
  { cc := p.cc ||| m.cc
    idc := p.idc || m.idc
    rs := p.rs || m.rs
    wc := p.wc || m.wc
    ovf := p.ovf || m.ovf
    com := p.com || m.com
    c := p.c || m.c }

/-- A byte with bit `k` set to `b`. -/
def putBit (p : Byte) (k : Nat) (b : Bool) : Byte :=
  if b then p ||| BitVec.twoPow 8 k else p &&& ~~~BitVec.twoPow 8 k

/-- A PSU with its SP field replaced. -/
def putSp (psu : Byte) (sp : BitVec 3) : Byte := psu.extractLsb' 3 5 ++ sp

/-- The bits of PSU that can be written: F, II, SP (10_state.md R38, 47_psw.md R240). -/
def psuMask : Byte := 0b01100111#8

/-- A PSU with the writable bits that `sel` selects taken from `v` (R240). -/
def putPsu (psu sel v : Byte) : Byte := (psu &&& ~~~(sel &&& psuMask)) ||| (v &&& (sel &&& psuMask))

/-- The PSU that SPSU and TPSU read: the SENSE level, bits 6..5, two zeros, bits 2..0 (R240). -/
def psuView (sense : Bool) (psu : Byte) : Byte :=
  BitVec.ofBool sense ++ (psu.extractLsb' 5 2 ++ (0#2 ++ psu.extractLsb' 0 3 : BitVec 5) : BitVec 7)

/-! ### Condition code -/

/-- `SetCC` of 00_scope.md R13: zero %00, 1 to 127 %01, bit 7 set %10. -/
def ccOf (v : Byte) : BitVec 2 := if v = 0 then 0b00 else if v.getLsbD 7 then 0b10 else 0b01

/-- `Compare` of 45_compare.md R220: as unsigned numbers if COM is set, else as two's complement numbers. -/
def compareCC (com : Bool) (a b : Byte) : BitVec 2 :=
  let va : Int := if com then a.toNat else a.toInt
  let vb : Int := if com then b.toNat else b.toInt
  if va > vb then 0b01 else if va = vb then 0b00 else 0b10

/-- The test of TMI, TPSU and TPSL: %00 if all bits the mask selects are ones, else %10 (R249, R252, R264). -/
def testCC (v mask : Byte) : BitVec 2 := if v &&& mask = mask then 0b00 else 0b10

/-! ### Add, subtract -/

/-- A byte result with the flags C, IDC and OVF. -/
structure Alu where
  res : Byte
  c : Bool
  idc : Bool
  ovf : Bool
  deriving DecidableEq, Repr

/-- The binary adder of 41_arithmetic.md R150 and R152, on the two numbers that enter it: C out of bit 7, IDC out of
bit 3, OVF if both have the sign that the result has not (R153). -/
def adder (a b : Byte) (cin : Bool) : Alu :=
  let sum := a.toNat + b.toNat + cin.toNat
  let res := BitVec.ofNat 8 sum
  { res := res
    c := decide (sum > 255)
    idc := decide (a.toNat % 16 + b.toNat % 16 + cin.toNat > 15)
    ovf := a.getLsbD 7 == b.getLsbD 7 && res.getLsbD 7 != a.getLsbD 7 }

/-- `Add` of R150: the carry bit enters if WC is set. -/
def addAlu (wc c : Bool) (a b : Byte) : Alu := adder a b (if wc then c else false)

/-- `Sub` of R152: the complemented subtrahend enters, with the carry bit if WC is set and 1 if not. -/
def subAlu (wc c : Bool) (a b : Byte) : Alu := adder a (~~~b) (if wc then c else true)

/-! ### Rotates -/

/-- The flags of a rotate with carry of `v` to `res` (48_rotate_misc.md R260, R261): IDC is bit 5 of the result, OVF a
changed bit 7. -/
def rotateAlu (v res : Byte) (c : Bool) : Alu :=
  { res := res, c := c, idc := res.getLsbD 5, ovf := res.getLsbD 7 != v.getLsbD 7 }

/-- The 8-bit left rotate (R260, WC = 0). -/
def rotLeft8 (v : Byte) : Byte := v.extractLsb' 0 7 ++ v.extractLsb' 7 1

/-- The 8-bit right rotate (R261, WC = 0). -/
def rotRight8 (v : Byte) : Byte := v.extractLsb' 0 1 ++ v.extractLsb' 1 7

/-- The 9-bit left rotate through C (R260, WC = 1). -/
def rotLeft9 (c : Bool) (v : Byte) : Alu := rotateAlu v (v.extractLsb' 0 7 ++ BitVec.ofBool c) (v.getLsbD 7)

/-- The 9-bit right rotate through C (R261, WC = 1). -/
def rotRight9 (c : Bool) (v : Byte) : Alu := rotateAlu v (BitVec.ofBool c ++ v.extractLsb' 1 7) (v.getLsbD 0)

/-! ### Decimal adjust -/

/-- DAR (R265): ten added to the high digit if C is 0 and to the low digit if IDC is 0, each modulo 16. -/
def decimalAdjust (c idc : Bool) (v : Byte) : Byte :=
  let hi : BitVec 4 := if c then v.extractLsb' 4 4 else v.extractLsb' 4 4 + 10
  let lo : BitVec 4 := if idc then v.extractLsb' 0 4 else v.extractLsb' 0 4 + 10
  hi ++ lo

end Sys2Proof.Machine
end

