-- ==== Sys2Proof/Machine/Ops.lean ====
section
/-! DEFINITION. The named operations over registers, addresses, memory, the environment, the stack and the program
counter; accepting an interrupt and returning from one; the reset event. -/

namespace Sys2Proof.Machine

/-! ### Status word -/

/-- Write all of PSL. -/
def State.setPsl (s : State) (v : Psl) : State := { s with psl := v }

/-- Write all of PSU as stored. -/
def State.setPsu (s : State) (v : Byte) : State := { s with psu := v }

/-- Write CC alone. -/
def State.setCC (s : State) (cc : BitVec 2) : State := s.setPsl { s.psl with cc := cc }

/-- Write C, IDC and OVF from an arithmetic result. -/
def State.setArith (s : State) (x : Alu) : State :=
  s.setPsl { s.psl with c := x.c, idc := x.idc, ovf := x.ovf }

/-- Write SP alone. -/
def State.setSp (s : State) (sp : BitVec 3) : State := s.setPsu (putSp s.psu sp)

/-- Write II alone. -/
def State.setII (s : State) (b : Bool) : State := s.setPsu (putBit s.psu 5 b)

/-! ### General registers -/

/-- The bank that RS selects (10_state.md R22). -/
def State.bank (s : State) : Bank := if s.psl.rs then s.bank1 else s.bank0

/-- Replace the bank that RS selects (R22). -/
def State.setBank (s : State) (b : Bank) : State :=
  if s.psl.rs then { s with bank1 := b } else { s with bank0 := b }

/-- `x[i]` (00_scope.md R10). -/
def State.getReg (s : State) (r : Reg) : Byte :=
  match r with
  | .r0 => s.r0
  | .r1 => s.bank.r1
  | .r2 => s.bank.r2
  | .r3 => s.bank.r3

/-- `x[i] <- v` (00_scope.md R10). -/
def State.setReg (s : State) (r : Reg) (v : Byte) : State :=
  match r with
  | .r0 => { s with r0 := v }
  | .r1 => s.setBank { s.bank with r1 := v }
  | .r2 => s.setBank { s.bank with r2 := v }
  | .r3 => s.setBank { s.bank with r3 := v }

/-! ### Addresses -/

/-- The page bits of an address (20_memory.md R61). -/
def page (a : Addr) : BitVec 2 := a.extractLsb' 13 2

/-- The offset of an address within its page (R61). -/
def off (a : Addr) : Offset := a.extractLsb' 0 13

/-- `inpage` (00_scope.md R11), the integer taken modulo 8192: the page stays, the offset wraps. -/
def inpage (a : Addr) (k : Offset) : Addr := page a ++ (off a + k)

/-- `sext7_13` (00_scope.md R9). -/
def sext7 (d : Disp) : Offset := d.signExtend 13

/-! ### The environment -/

/-- Record an output (60_exceptions.md R272). -/
def State.emit (s : State) (e : Event) : State := { s with trace := s.trace ++ [e] }

/-- The next number for a free value, and the counter moved past it. -/
def State.fresh (s : State) : Nat × State := (s.draws, { s with draws := s.draws + 1 })

/-- Sample the RESET line (70_reset_and_hazards.md R300): past the script's end no reset comes (log entry 10). -/
def State.drawReset (s : State) : Option ResetValues × State :=
  match s.env.resets with
  | x :: xs => (x, { s with env := { s.env with resets := xs } })
  | [] => (none, s)

/-- Sample the interrupt request line (R274): past the script's end it is 0 (R281, log entry 9). -/
def State.drawIntReq (s : State) : Bool × State :=
  match s.env.intReqs with
  | x :: xs => (x, { s with env := { s.env with intReqs := xs } })
  | [] => (false, s)

/-- `Env.IntVector()` (R276). -/
def State.drawIntVector (s : State) : Byte × State :=
  match s.env.intVectors with
  | x :: xs => (x, { s with env := { s.env with intVectors := xs } })
  | [] => (Config.freeIntVector s.draws, { s with draws := s.draws + 1 })

/-- `Env.SensePin()` (10_state.md R35). -/
def State.drawSense (s : State) : Bool × State :=
  match s.env.senses with
  | x :: xs => (x, { s with env := { s.env with senses := xs } })
  | [] => (Config.freeSense s.draws, { s with draws := s.draws + 1 })

/-- The byte an I/O read draws from the environment (46_io.md R230). -/
def State.drawIoRead (s : State) : Byte × State :=
  match s.env.ioReads with
  | x :: xs => (x, { s with env := { s.env with ioReads := xs } })
  | [] => (Config.freeIoRead s.draws, { s with draws := s.draws + 1 })

/-- The byte a read of a device or absent address draws from the environment (20_memory.md R76). -/
def State.drawMemRead (s : State) : Byte × State :=
  match s.env.memReads with
  | x :: xs => (x, { s with env := { s.env with memReads := xs } })
  | [] => (Config.freeMemRead s.draws, { s with draws := s.draws + 1 })

/-- `IORead(space, port)` (46_io.md R230): one transfer, one byte from the environment. -/
def State.ioRead (s : State) (space : IoSpace) : Byte × State := (s.emit (.ioRead space)).drawIoRead

/-- `IOWrite(space, port, v)` (R230): one transfer, no change of the processor. -/
def State.ioWrite (s : State) (space : IoSpace) (v : Byte) : State := s.emit (.ioWrite space v)

/-! ### Memory -/

/-- What an address that no cell lists reads as: DESIGN CHOICE 0, log entry 4. -/
def Memory.unlisted : Byte := 0

/-- The byte at an address. -/
def Memory.read : Memory → Nat → Byte
  | [], _ => Memory.unlisted
  | (b, w) :: rest, a => if b = a then w else Memory.read rest a

/-- Take out every cell of an address. -/
def Memory.erase : Memory → Nat → Memory
  | [], _ => []
  | (b, w) :: rest, a => if b = a then Memory.erase rest a else (b, w) :: Memory.erase rest a

/-- Put a cell before the first cell of a higher address. -/
def Memory.insert : Memory → Nat → Byte → Memory
  | [], a, v => [(a, v)]
  | (b, w) :: rest, a, v => if a < b then (a, v) :: (b, w) :: rest else (b, w) :: Memory.insert rest a v

/-- Store a byte, keeping the canonical form: a byte equal to what an unlisted address reads as takes the cell out. -/
def Memory.write (m : Memory) (a : Nat) (v : Byte) : Memory :=
  if v = Memory.unlisted then m.erase a else (m.erase a).insert a v

/-- The canonical form of memory: addresses strictly rising and inside the 32768 (R60), no cell equal to an unlisted
one. -/
def Memory.wf : Memory → Bool
  | [] => true
  | (a, v) :: rest => decide (a < 32768) && v != Memory.unlisted && rest.all (fun c => decide (a < c.1)) && Memory.wf rest

/-- What MemMap connects at an address: the first region that holds it, RAM if none does (R7, R76). -/
def memKind : List Region → Nat → MemKind
  | [], _ => .ram
  | g :: rest, a => if g.base ≤ a ∧ a < g.base + g.size then g.kind else memKind rest a

/-- What is connected at an address (R76). -/
def State.kindAt (s : State) (a : Addr) : MemKind := memKind s.cfg.memMap a.toNat

/-- An address answers its stored byte if RAM or ROM is there (R76). -/
def State.stored (s : State) (a : Addr) : Prop := s.kindAt a = .ram ∨ s.kindAt a = .rom

/-- The byte RAM or ROM holds at an address, without an access. -/
def State.peek (s : State) (a : Addr) : Byte := s.mem.read a.toNat

/-- `MemRead(a, 1)` (00_scope.md R12, 20_memory.md R76): RAM and ROM answer their byte, a device and an absent address
a byte drawn from the environment. -/
def State.memRead (s : State) (a : Addr) : Byte × State :=
  match s.kindAt a with
  | .ram | .rom => (s.peek a, s)
  | .device => (s.emit (.deviceRead a)).drawMemRead
  | .absent => s.drawMemRead

/-- `MemWrite(a, 1, v)` (R12, R76): RAM stores, a device takes the byte, ROM and absent addresses do not change. -/
def State.memWrite (s : State) (a : Addr) (v : Byte) : State :=
  match s.kindAt a with
  | .ram => { s with mem := s.mem.write a.toNat v }
  | .device => s.emit (.deviceWrite a v)
  | .rom | .absent => s

/-- `ReadPtr(p)` (R12, R70): high byte first, its bit 7 ignored, the low byte from the next address in the page. -/
def State.readPtr (s : State) (p : Addr) : Addr × State :=
  let (hi, s1) := s.memRead p
  let (lo, s2) := s1.memRead (inpage p 1)
  (hi.extractLsb' 0 7 ++ lo, s2)

/-- The address itself if direct, the pointer stored there if indirect (R70). -/
def State.resolve (s : State) (i : Bool) (p : Addr) : Addr × State := if i then s.readPtr p else (p, s)

/-- `EA_Z0` (30_encoding.md R108): the displacement from byte 0 of page 0, modulo 8192. -/
def State.eaZ0 (s : State) (i : Bool) (d : Disp) : Addr × State := s.resolve i (0#2 ++ sext7 d)

/-! ### Program counter and stack -/

/-- Two cycles for the indirect addressing sequence (R112, R310). -/
def indCycles (i : Bool) : Nat := if i then 2 else 0

/-- End an instruction of `len` bytes in sequence: `pc <- next` (R16), its cycles counted (R310). -/
def State.retire (s : State) (len : Offset) (cyc : Nat) : State :=
  { s with pc := inpage s.pc len, cycles := s.cycles + cyc }

/-- End an instruction at a target: `pc <- target`, all 15 bits (R10, R73), its cycles counted (R310). -/
def State.jump (s : State) (target : Addr) (cyc : Nat) : State :=
  { s with pc := target, cycles := s.cycles + cyc }

/-- `Push(a)` (10_state.md R48): SP up by one, modulo 8, then the entry it points to written. -/
def State.push (s : State) (a : Addr) : State :=
  let sp := s.sp + 1
  { s.setSp sp with ras := s.ras.set sp.toNat a sp.isLt }

/-- `Pop()` (R49): the entry SP points to, then SP down by one, modulo 8; the entry stays. -/
def State.pop (s : State) : Addr × State := (s.ras[s.sp.toNat]'s.sp.isLt, s.setSp (s.sp - 1))

/-- Set or clear the run/wait flag, the RUN/WAIT line following it (R55, R263). -/
def State.setWaiting (s : State) (b : Bool) : State :=
  if s.waiting = b then s else { s with waiting := b }.emit (.waitLine b)

/-! ### Interrupt and reset -/

/-- Accept an interrupt (60_exceptions.md R276): leave the WAIT state, set II, take the vector byte as byte 1 of a
ZBSR, push `pc` and go to the ZBSR's effective address. The cycles it takes are a free value (log entry 13). -/
def State.takeInterrupt (s : State) : State :=
  let (vb, s1) := (((s.setWaiting false).setII true).emit .intAck).drawIntVector
  let (ea, s2) := s1.eaZ0 (indBit vb) (disp7 vb)
  let (n, s3) := (s2.push s2.pc).fresh
  s3.jump ea (Config.freeAcceptCycles n)

/-- Return and enable interrupts, in one step (44_subroutine.md R210): pop into `pc`, clear II. -/
def State.returnEnabling (s : State) (cyc : Nat) : State :=
  let (a, s1) := s.pop
  (s1.setII false).jump a cyc

/-- The reset event (70_reset_and_hazards.md R300, R301): the processor state replaced, what R301 leaves unspecified
taken from the event; memory and devices untouched. -/
def State.resetEvent (s : State) (v : ResetValues) : State :=
  let s1 := (s.setWaiting false).emit (.flagPin v.flag)
  { s1 with
    r0 := v.r0
    bank0 := v.bank0
    bank1 := v.bank1
    pc := 0
    psu := putSp (putBit 0 6 v.flag) v.sp
    psl := v.psl
    ras := v.ras }

end Sys2Proof.Machine
end

