-- ==== Sys2Proof/Machine/Operands.lean ====
section
/-! DEFINITION. Effective addresses (30_encoding.md, section 3) and the operand forms each instruction is one line
over. -/

namespace Sys2Proof.Machine

/-- Continue with the value of an outcome, or stop as it stops. -/
def andThen {α β : Type} (x : Host.Outcome α Fault Refusal) (k : α → Host.Outcome β Fault Refusal) :
    Host.Outcome β Fault Refusal :=
  match x with
  | .next a => k a
  | .fault r => .fault r
  | .refused r => .refused r

/-! ### Effective addresses -/

/-- `EA_R` (R104, 20_memory.md R67): the displacement from the byte after the two-byte instruction, modulo 8192 in its
page, then the pointer if indirect. -/
def State.eaR (s : State) (i : Bool) (d : Disp) : Addr × State := s.resolve i (inpage (inpage s.pc 2) (sext7 d))

/-- The address a format A instruction names: its 13 bits in the page of the instruction (R105, 20_memory.md R68). -/
def State.addrA (s : State) (a : Offset) : Addr := page s.pc ++ a

/-- `EA_B` and `EA_P` (R107, R110): the 15-bit field, or the pointer there if indirect. -/
def State.eaB (s : State) (i : Bool) (a : Addr) : Addr × State := s.resolve i a

/-- The index addition (20_memory.md R69): in the page of the base, or refused by INDEX_WRAP when it leaves it. -/
def State.addIndex (s : State) (base : Addr) (x : Byte) : Host.Outcome Addr Fault Refusal :=
  if s.cfg.indexWrap = .refuse ∧ (off base).toNat + x.toNat > 8191 then .refused .indexCrossesPage
  else .next (inpage base (x.setWidth 13))

/-- The update of the index register by the index control (R106): before its use, and setting no flag (R42). -/
def State.stepIndex (s : State) (r : Reg) (x : IndexCtl) : State :=
  match x with
  | .inc => s.setReg r (s.getReg r + 1)
  | .dec => s.setReg r (s.getReg r - 1)
  | .none | .plain => s

/-- `EA_A` (R105, R106): the effective address and the operand register, which is `r` without indexing and r0 with it.
-/
def State.eaA (s : State) (r : Reg) (i : Bool) (x : IndexCtl) (a : Offset) :
    Host.Outcome (Addr × Reg × State) Fault Refusal :=
  match x with
  | .none =>
    let (ea, s1) := s.resolve i (s.addrA a)
    .next (ea, r, s1)
  | .inc | .dec | .plain =>
    let s1 := s.stepIndex r x
    let (base, s2) := s1.resolve i (s1.addrA a)
    andThen (s2.addIndex base (s2.getReg r)) fun ea => .next (ea, .r0, s2)

/-- `EA_X` (R109): the index is register 3 of the selected bank, which stays. -/
def State.eaX (s : State) (i : Bool) (a : Addr) : Host.Outcome (Addr × State) Fault Refusal :=
  let (base, s1) := s.eaB i a
  andThen (s1.addIndex base (s1.getReg .r3)) fun ea => .next (ea, s1)

/-! ### Operand forms of the arithmetic group (40_load_store.md R140)

`f r m s` is what the instruction does with its register operand `r` and its other operand `m`. -/

/-- Format Z: the register operand is r0, the other operand `x[r]` (R96). One byte, two cycles (R310). -/
def formZ (f : Reg → Byte → State → State) (r : Reg) (s : State) : Host.Outcome State Fault Refusal :=
  .next ((f .r0 (s.getReg r) s).retire 1 2)

/-- Format I: the other operand is byte 1 (R97). Two bytes, two cycles. -/
def formI (f : Reg → Byte → State → State) (r : Reg) (v : Byte) (s : State) : Host.Outcome State Fault Refusal :=
  .next ((f r v s).retire 2 2)

/-- Format R: the other operand is the byte at the relative effective address (R98). Two bytes, three cycles, five if
indirect. -/
def formR (f : Reg → Byte → State → State) (r : Reg) (i : Bool) (d : Disp) (s : State) :
    Host.Outcome State Fault Refusal :=
  let (ea, s1) := s.eaR i d
  let (m, s2) := s1.memRead ea
  .next ((f r m s2).retire 2 (3 + indCycles i))

/-- Format A: the other operand is the byte at the absolute effective address (R99). Three bytes, four cycles, six if
indirect. -/
def formA (f : Reg → Byte → State → State) (r : Reg) (i : Bool) (x : IndexCtl) (a : Offset) (s : State) :
    Host.Outcome State Fault Refusal :=
  andThen (s.eaA r i x a) fun (ea, opr, s1) =>
    let (m, s2) := s1.memRead ea
    .next ((f opr m s2).retire 3 (4 + indCycles i))

/-! ### Branch forms (43_branch.md R180, 44_subroutine.md R200)

The effective address, and so the pointer, is read only if the branch is taken. -/

/-- A relative branch. -/
def branchR (taken : Bool) (i : Bool) (d : Disp) (s : State) : Host.Outcome State Fault Refusal :=
  if taken then
    let (ea, s1) := s.eaR i d
    .next (s1.jump ea (3 + indCycles i))
  else .next (s.retire 2 3)

/-- An absolute branch. -/
def branchB (taken : Bool) (i : Bool) (a : Addr) (s : State) : Host.Outcome State Fault Refusal :=
  if taken then
    let (ea, s1) := s.eaB i a
    .next (s1.jump ea (3 + indCycles i))
  else .next (s.retire 3 3)

/-- Push the address `len` bytes on and go to `ea` (R200). -/
def State.call (s : State) (len : Offset) (ea : Addr) (cyc : Nat) : State := (s.push (inpage s.pc len)).jump ea cyc

/-- A relative subroutine branch. -/
def callR (taken : Bool) (i : Bool) (d : Disp) (s : State) : Host.Outcome State Fault Refusal :=
  if taken then
    let (ea, s1) := s.eaR i d
    .next (s1.call 2 ea (3 + indCycles i))
  else .next (s.retire 2 3)

/-- An absolute subroutine branch. -/
def callB (taken : Bool) (i : Bool) (a : Addr) (s : State) : Host.Outcome State Fault Refusal :=
  if taken then
    let (ea, s1) := s.eaB i a
    .next (s1.call 3 ea (3 + indCycles i))
  else .next (s.retire 3 3)

/-! ### Conditions -/

/-- The test of the condition-true branches and the returns: `v = 3` or `v = CC` (R111). -/
def State.condTrue (s : State) (v : Cond) : Bool := v == .un || v.code == s.psl.cc

/-- The test of the condition-false branches: `v` is not CC (R111). -/
def State.condFalse (s : State) (v : Cond) : Bool := v.code != s.psl.cc

/-- The test of the branches on a register: not zero (43_branch.md R185). -/
def State.nonZero (s : State) (r : Reg) : Bool := s.getReg r != 0

end Sys2Proof.Machine
end

