-- ==== Sys2Proof/Machine/Arithmetic.lean ====
section
/-! DEFINITION. Add and subtract: 41_arithmetic.md. -/

namespace Sys2Proof.Machine

/-- Write an arithmetic result: the register, C, IDC and OVF whatever WC is, and CC from the result (R154). -/
def State.writeAlu (r : Reg) (x : Alu) (s : State) : State := ((s.setReg r x.res).setArith x).setCC (ccOf x.res)

/-- Add the operand to the register (R150). -/
def State.addOp (r : Reg) (m : Byte) (s : State) : State := State.writeAlu r (addAlu s.psl.wc s.psl.c (s.getReg r) m) s

/-- Subtract the operand from the register (R152). -/
def State.subOp (r : Reg) (m : Byte) (s : State) : State := State.writeAlu r (subAlu s.psl.wc s.psl.c (s.getReg r) m) s

/-- ADDZ (R155): a register added to r0. -/
def execAddz (r : Reg) (s : State) : Host.Outcome State Fault Refusal := formZ State.addOp r s

/-- ADDI (R156): byte 1 added to a register. -/
def execAddi (r : Reg) (v : Byte) (s : State) : Host.Outcome State Fault Refusal := formI State.addOp r v s

/-- ADDR (R157): memory added to a register, relative. -/
def execAddr (r : Reg) (i : Bool) (d : Disp) (s : State) : Host.Outcome State Fault Refusal :=
  formR State.addOp r i d s

/-- ADDA (R158): memory added to a register, absolute; to r0 if indexed. -/
def execAdda (r : Reg) (i : Bool) (x : IndexCtl) (a : Offset) (s : State) : Host.Outcome State Fault Refusal :=
  formA State.addOp r i x a s

/-- SUBZ (R159): a register subtracted from r0. -/
def execSubz (r : Reg) (s : State) : Host.Outcome State Fault Refusal := formZ State.subOp r s

/-- SUBI (R160): byte 1 subtracted from a register. -/
def execSubi (r : Reg) (v : Byte) (s : State) : Host.Outcome State Fault Refusal := formI State.subOp r v s

/-- SUBR (R161): memory subtracted from a register, relative. -/
def execSubr (r : Reg) (i : Bool) (d : Disp) (s : State) : Host.Outcome State Fault Refusal :=
  formR State.subOp r i d s

/-- SUBA (R162): memory subtracted from a register, absolute; from r0 if indexed. -/
def execSuba (r : Reg) (i : Bool) (x : IndexCtl) (a : Offset) (s : State) : Host.Outcome State Fault Refusal :=
  formA State.subOp r i x a s

end Sys2Proof.Machine
end

