-- ==== Sys2Proof/Machine/Branch.lean ====
section
/-! DEFINITION. Branches: 43_branch.md. -/

namespace Sys2Proof.Machine

/-- BCTR (R181): relative, if the condition is `un` or CC. -/
def execBctr (v : Cond) (i : Bool) (d : Disp) (s : State) : Host.Outcome State Fault Refusal :=
  branchR (s.condTrue v) i d s

/-- BCTA (R182): absolute, if the condition is `un` or CC. -/
def execBcta (v : Cond) (i : Bool) (a : Addr) (s : State) : Host.Outcome State Fault Refusal :=
  branchB (s.condTrue v) i a s

/-- BCFR (R183): relative, if the condition is not CC; `un` is no operand. -/
def execBcfr (v : Cond) (i : Bool) (d : Disp) (s : State) : Host.Outcome State Fault Refusal :=
  if v = .un then .refused .illFormed else branchR (s.condFalse v) i d s

/-- BCFA (R184): absolute, if the condition is not CC; `un` is no operand. -/
def execBcfa (v : Cond) (i : Bool) (a : Addr) (s : State) : Host.Outcome State Fault Refusal :=
  if v = .un then .refused .illFormed else branchB (s.condFalse v) i a s

/-- BRNR (R185): relative, if the register is not zero. -/
def execBrnr (r : Reg) (i : Bool) (d : Disp) (s : State) : Host.Outcome State Fault Refusal :=
  branchR (s.nonZero r) i d s

/-- BRNA (R186): absolute, if the register is not zero. -/
def execBrna (r : Reg) (i : Bool) (a : Addr) (s : State) : Host.Outcome State Fault Refusal :=
  branchB (s.nonZero r) i a s

/-- The register up by one, modulo 256, no flag written (R187). -/
def State.incReg (s : State) (r : Reg) : State := s.setReg r (s.getReg r + 1)

/-- The register down by one, modulo 256, no flag written (R189). -/
def State.decReg (s : State) (r : Reg) : State := s.setReg r (s.getReg r - 1)

/-- BIRR (R187): relative, if the incremented register is not zero. -/
def execBirr (r : Reg) (i : Bool) (d : Disp) (s : State) : Host.Outcome State Fault Refusal :=
  branchR ((s.incReg r).nonZero r) i d (s.incReg r)

/-- BIRA (R188): absolute, if the incremented register is not zero. -/
def execBira (r : Reg) (i : Bool) (a : Addr) (s : State) : Host.Outcome State Fault Refusal :=
  branchB ((s.incReg r).nonZero r) i a (s.incReg r)

/-- BDRR (R189): relative, if the decremented register is not zero. -/
def execBdrr (r : Reg) (i : Bool) (d : Disp) (s : State) : Host.Outcome State Fault Refusal :=
  branchR ((s.decReg r).nonZero r) i d (s.decReg r)

/-- BDRA (R190): absolute, if the decremented register is not zero. -/
def execBdra (r : Reg) (i : Bool) (a : Addr) (s : State) : Host.Outcome State Fault Refusal :=
  branchB ((s.decReg r).nonZero r) i a (s.decReg r)

/-- BXA (R191): to the address indexed by r3. -/
def execBxa (i : Bool) (a : Addr) (s : State) : Host.Outcome State Fault Refusal :=
  andThen (s.eaX i a) fun (ea, s1) => .next (s1.jump ea (3 + indCycles i))

/-- ZBRR (R192): relative to byte 0 of page 0. -/
def execZbrr (i : Bool) (d : Disp) (s : State) : Host.Outcome State Fault Refusal :=
  let (ea, s1) := s.eaZ0 i d
  .next (s1.jump ea (3 + indCycles i))

end Sys2Proof.Machine
end

