-- ==== Sys2Proof/Machine/Compare.lean ====
section
/-! DEFINITION. Compares: 45_compare.md. -/

namespace Sys2Proof.Machine

/-- Compare the register with the operand: CC alone is written (R220). -/
def State.compareOp (r : Reg) (m : Byte) (s : State) : State := s.setCC (compareCC s.psl.com (s.getReg r) m)

/-- COMZ (R221): r0 with a register. -/
def execComz (r : Reg) (s : State) : Host.Outcome State Fault Refusal := formZ State.compareOp r s

/-- COMI (R222): a register with byte 1. -/
def execComi (r : Reg) (v : Byte) (s : State) : Host.Outcome State Fault Refusal := formI State.compareOp r v s

/-- COMR (R223): a register with memory, relative. -/
def execComr (r : Reg) (i : Bool) (d : Disp) (s : State) : Host.Outcome State Fault Refusal :=
  formR State.compareOp r i d s

/-- COMA (R224): a register with memory, absolute; r0 if indexed. -/
def execComa (r : Reg) (i : Bool) (x : IndexCtl) (a : Offset) (s : State) : Host.Outcome State Fault Refusal :=
  formA State.compareOp r i x a s

end Sys2Proof.Machine
end

