-- ==== Sys2Proof/Machine/Io.lean ====
section
/-! DEFINITION. Input and output: 46_io.md. -/

namespace Sys2Proof.Machine

/-- A read from an I/O space into a register, CC from the byte (R231, R232, R235). -/
def ioIn (space : IoSpace) (r : Reg) (len : Offset) (cyc : Nat) (s : State) : Host.Outcome State Fault Refusal :=
  let (v, s1) := s.ioRead space
  .next (((s1.setReg r v).setCC (ccOf v)).retire len cyc)

/-- A write of a register to an I/O space; no flag (R233, R234, R236). -/
def ioOut (space : IoSpace) (r : Reg) (len : Offset) (cyc : Nat) (s : State) : Host.Outcome State Fault Refusal :=
  .next ((s.ioWrite space (s.getReg r)).retire len cyc)

/-- REDC (R231): from the control port. -/
def execRedc (r : Reg) (s : State) : Host.Outcome State Fault Refusal := ioIn .ctrl r 1 2 s

/-- REDD (R232): from the data port. -/
def execRedd (r : Reg) (s : State) : Host.Outcome State Fault Refusal := ioIn .data r 1 2 s

/-- WRTC (R233): to the control port. -/
def execWrtc (r : Reg) (s : State) : Host.Outcome State Fault Refusal := ioOut .ctrl r 1 2 s

/-- WRTD (R234): to the data port. -/
def execWrtd (r : Reg) (s : State) : Host.Outcome State Fault Refusal := ioOut .data r 1 2 s

/-- REDE (R235): from the extended port of byte 1. -/
def execRede (r : Reg) (port : Byte) (s : State) : Host.Outcome State Fault Refusal := ioIn (.ext port) r 2 3 s

/-- WRTE (R236): to the extended port of byte 1. -/
def execWrte (r : Reg) (port : Byte) (s : State) : Host.Outcome State Fault Refusal := ioOut (.ext port) r 2 3 s

end Sys2Proof.Machine
end

