-- ==== Sys2Proof/Machine/LoadStore.lean ====
section
/-! DEFINITION. Load and store: 40_load_store.md. -/

namespace Sys2Proof.Machine

/-- Load: the register takes the operand and CC its sign (R141 to R144). -/
def State.loadOp (r : Reg) (m : Byte) (s : State) : State := (s.setReg r m).setCC (ccOf m)

/-- LODZ (R141): r0 from a register; r0 itself is no operand (R24). -/
def execLodz (r : Reg) (s : State) : Host.Outcome State Fault Refusal :=
  if r = .r0 then .refused .illFormed else formZ State.loadOp r s

/-- LODI (R142): a register from byte 1. -/
def execLodi (r : Reg) (v : Byte) (s : State) : Host.Outcome State Fault Refusal := formI State.loadOp r v s

/-- LODR (R143): a register from memory, relative. -/
def execLodr (r : Reg) (i : Bool) (d : Disp) (s : State) : Host.Outcome State Fault Refusal :=
  formR State.loadOp r i d s

/-- LODA (R144): a register from memory, absolute; r0 if indexed. -/
def execLoda (r : Reg) (i : Bool) (x : IndexCtl) (a : Offset) (s : State) : Host.Outcome State Fault Refusal :=
  formA State.loadOp r i x a s

/-- STRZ (R145): a register from r0, CC set; r0 itself is no operand (R24). -/
def execStrz (r : Reg) (s : State) : Host.Outcome State Fault Refusal :=
  if r = .r0 then .refused .illFormed else .next ((State.loadOp r s.r0 s).retire 1 2)

/-- STRR (R146): one byte write at the relative effective address; no flag. -/
def execStrr (r : Reg) (i : Bool) (d : Disp) (s : State) : Host.Outcome State Fault Refusal :=
  let (ea, s1) := s.eaR i d
  .next ((s1.memWrite ea (s1.getReg r)).retire 2 (3 + indCycles i))

/-- STRA (R147): one byte write at the absolute effective address, of r0 if indexed; no flag. -/
def execStra (r : Reg) (i : Bool) (x : IndexCtl) (a : Offset) (s : State) : Host.Outcome State Fault Refusal :=
  andThen (s.eaA r i x a) fun (ea, opr, s1) =>
    .next ((s1.memWrite ea (s1.getReg opr)).retire 3 (4 + indCycles i))

end Sys2Proof.Machine
end

