-- ==== Sys2Proof/Machine/Logical.lean ====
section
/-! DEFINITION. Inclusive OR, exclusive OR, AND: 42_logical.md. -/

namespace Sys2Proof.Machine

/-- Write a logical result: the register, and CC from it; no other flag (R165). -/
def State.writeLogic (r : Reg) (v : Byte) (s : State) : State := (s.setReg r v).setCC (ccOf v)

/-- Inclusive OR (R165). -/
def State.iorOp (r : Reg) (m : Byte) (s : State) : State := State.writeLogic r (s.getReg r ||| m) s

/-- Exclusive OR (R165). -/
def State.eorOp (r : Reg) (m : Byte) (s : State) : State := State.writeLogic r (s.getReg r ^^^ m) s

/-- AND (R165). -/
def State.andOp (r : Reg) (m : Byte) (s : State) : State := State.writeLogic r (s.getReg r &&& m) s

/-- IORZ (R166): r0 with a register. -/
def execIorz (r : Reg) (s : State) : Host.Outcome State Fault Refusal := formZ State.iorOp r s

/-- IORI (R167): a register with byte 1. -/
def execIori (r : Reg) (v : Byte) (s : State) : Host.Outcome State Fault Refusal := formI State.iorOp r v s

/-- IORR (R168): a register with memory, relative. -/
def execIorr (r : Reg) (i : Bool) (d : Disp) (s : State) : Host.Outcome State Fault Refusal :=
  formR State.iorOp r i d s

/-- IORA (R169): a register with memory, absolute; r0 if indexed. -/
def execIora (r : Reg) (i : Bool) (x : IndexCtl) (a : Offset) (s : State) : Host.Outcome State Fault Refusal :=
  formA State.iorOp r i x a s

/-- EORZ (R170): r0 with a register. -/
def execEorz (r : Reg) (s : State) : Host.Outcome State Fault Refusal := formZ State.eorOp r s

/-- EORI (R171): a register with byte 1. -/
def execEori (r : Reg) (v : Byte) (s : State) : Host.Outcome State Fault Refusal := formI State.eorOp r v s

/-- EORR (R172): a register with memory, relative. -/
def execEorr (r : Reg) (i : Bool) (d : Disp) (s : State) : Host.Outcome State Fault Refusal :=
  formR State.eorOp r i d s

/-- EORA (R173): a register with memory, absolute; r0 if indexed. -/
def execEora (r : Reg) (i : Bool) (x : IndexCtl) (a : Offset) (s : State) : Host.Outcome State Fault Refusal :=
  formA State.eorOp r i x a s

/-- ANDZ (R174): r0 with a register; r0 itself is no operand. -/
def execAndz (r : Reg) (s : State) : Host.Outcome State Fault Refusal :=
  if r = .r0 then .refused .illFormed else formZ State.andOp r s

/-- ANDI (R175): a register with byte 1. -/
def execAndi (r : Reg) (v : Byte) (s : State) : Host.Outcome State Fault Refusal := formI State.andOp r v s

/-- ANDR (R176): a register with memory, relative. -/
def execAndr (r : Reg) (i : Bool) (d : Disp) (s : State) : Host.Outcome State Fault Refusal :=
  formR State.andOp r i d s

/-- ANDA (R177): a register with memory, absolute; r0 if indexed. -/
def execAnda (r : Reg) (i : Bool) (x : IndexCtl) (a : Offset) (s : State) : Host.Outcome State Fault Refusal :=
  formA State.andOp r i x a s

end Sys2Proof.Machine
end

