-- ==== Sys2Proof/Machine/Psw.lean ====
section
/-! DEFINITION. Program status: 47_psw.md. -/

namespace Sys2Proof.Machine

/-- Write the PSU bits that `sel` selects from `v`, through the mask of R240; a write of F drives the FLAG pin (R36). -/
def State.selectPsu (s : State) (sel v : Byte) : State :=
  let s1 := s.setPsu (putPsu s.psu sel v)
  if sel.getLsbD 6 then s1.emit (.flagPin s1.flag) else s1

/-- LPSU (R241): F, II and SP from r0. -/
def execLpsu (s : State) : Host.Outcome State Fault Refusal := .next ((s.selectPsu 0xFF s.r0).retire 1 2)

/-- LPSL (R242): PSL from r0, CC copied. -/
def execLpsl (s : State) : Host.Outcome State Fault Refusal := .next ((s.setPsl (.ofByte s.r0)).retire 1 2)

/-- SPSU (R243): r0 from PSU with the SENSE pin, CC from the byte. -/
def execSpsu (s : State) : Host.Outcome State Fault Refusal :=
  let (pin, s1) := s.drawSense
  let v := psuView pin s1.psu
  .next (((s1.setReg .r0 v).setCC (ccOf v)).retire 1 2)

/-- SPSL (R244): r0 from the old PSL, then CC from the byte. -/
def execSpsl (s : State) : Host.Outcome State Fault Refusal :=
  .next (((s.setReg .r0 s.psl.toByte).setCC (ccOf s.psl.toByte)).retire 1 2)

/-- CPSU (R245): the selected writable PSU bits cleared. -/
def execCpsu (m : Byte) (s : State) : Host.Outcome State Fault Refusal := .next ((s.selectPsu m 0x00).retire 2 3)

/-- CPSL (R246): the selected PSL bits cleared. -/
def execCpsl (m : Byte) (s : State) : Host.Outcome State Fault Refusal :=
  .next ((s.setPsl (s.psl.clear (.ofByte m))).retire 2 3)

/-- PPSU (R247): the selected writable PSU bits set. -/
def execPpsu (m : Byte) (s : State) : Host.Outcome State Fault Refusal := .next ((s.selectPsu m 0xFF).retire 2 3)

/-- PPSL (R248): the selected PSL bits set. -/
def execPpsl (m : Byte) (s : State) : Host.Outcome State Fault Refusal :=
  .next ((s.setPsl (s.psl.preset (.ofByte m))).retire 2 3)

/-- TPSU (R249): CC from the test of PSU with the SENSE pin. -/
def execTpsu (m : Byte) (s : State) : Host.Outcome State Fault Refusal :=
  let (pin, s1) := s.drawSense
  .next ((s1.setCC (testCC (psuView pin s1.psu) m)).retire 2 3)

/-- TPSL (R252): CC from the test of the old PSL. -/
def execTpsl (m : Byte) (s : State) : Host.Outcome State Fault Refusal :=
  .next ((s.setCC (testCC s.psl.toByte m)).retire 2 3)

/-- LDPL (R250): PSL from memory; $10 is undefined on the plain 2650 (R124). -/
def execLdpl (i : Bool) (a : Addr) (s : State) : Host.Outcome State Fault Refusal :=
  if s.cfg.variant = .p2650 then .refused (.undefinedOpcode 0x10)
  else
    let (ea, s1) := s.eaB i a
    let (v, s2) := s1.memRead ea
    .next ((s2.setPsl (.ofByte v)).retire 3 (4 + indCycles i))

/-- STPL (R251): PSL to memory; no flag. $11 is undefined on the plain 2650 (R124). -/
def execStpl (i : Bool) (a : Addr) (s : State) : Host.Outcome State Fault Refusal :=
  if s.cfg.variant = .p2650 then .refused (.undefinedOpcode 0x11)
  else
    let (ea, s1) := s.eaB i a
    .next ((s1.memWrite ea s1.psl.toByte).retire 3 (4 + indCycles i))

end Sys2Proof.Machine
end

