-- ==== Sys2Proof/Machine/RotateMisc.lean ====
section
/-! DEFINITION. Rotates, test, decimal adjust, NOP, HALT: 48_rotate_misc.md. -/

namespace Sys2Proof.Machine

/-- Write a rotate's result: the 8-bit one and no flag but CC without carry, the 9-bit one with C, IDC and OVF with it
(R260, R261). -/
def State.rotateOp (s : State) (r : Reg) (res8 : Byte) (res9 : Alu) : State :=
  if s.psl.wc then ((s.setReg r res9.res).setArith res9).setCC (ccOf res9.res)
  else (s.setReg r res8).setCC (ccOf res8)

/-- RRL (R260): rotate left. -/
def execRrl (r : Reg) (s : State) : Host.Outcome State Fault Refusal :=
  .next ((s.rotateOp r (rotLeft8 (s.getReg r)) (rotLeft9 s.psl.c (s.getReg r))).retire 1 2)

/-- RRR (R261): rotate right. -/
def execRrr (r : Reg) (s : State) : Host.Outcome State Fault Refusal :=
  .next ((s.rotateOp r (rotRight8 (s.getReg r)) (rotRight9 s.psl.c (s.getReg r))).retire 1 2)

/-- NOP (R262): nothing but `pc`. -/
def execNop (s : State) : Host.Outcome State Fault Refusal := .next (s.retire 1 2)

/-- HALT (R263): `pc` past it, then the WAIT state. -/
def execHalt (s : State) : Host.Outcome State Fault Refusal := .next ((s.retire 1 2).setWaiting true)

/-- TMI (R264): CC from the test of a register under the mask of byte 1. -/
def execTmi (r : Reg) (m : Byte) (s : State) : Host.Outcome State Fault Refusal :=
  .next ((s.setCC (testCC (s.getReg r) m)).retire 2 3)

/-- DAR (R265): the register's digits adjusted by C and IDC; CC is a free value (log entry 11). -/
def execDar (r : Reg) (s : State) : Host.Outcome State Fault Refusal :=
  let (n, s1) := (s.setReg r (decimalAdjust s.psl.c s.psl.idc (s.getReg r))).fresh
  .next ((s1.setCC (Config.freeCC n)).retire 1 3)

end Sys2Proof.Machine
end

