-- ==== Sys2Proof/Machine/Subroutine.lean ====
section
/-! DEFINITION. Subroutine branches and returns: 44_subroutine.md. -/

namespace Sys2Proof.Machine

/-- BSTR (R201): relative, if the condition is `un` or CC. -/
def execBstr (v : Cond) (i : Bool) (d : Disp) (s : State) : Host.Outcome State Fault Refusal :=
  callR (s.condTrue v) i d s

/-- BSTA (R202): absolute, if the condition is `un` or CC. -/
def execBsta (v : Cond) (i : Bool) (a : Addr) (s : State) : Host.Outcome State Fault Refusal :=
  callB (s.condTrue v) i a s

/-- BSFR (R203): relative, if the condition is not CC; `un` is no operand. -/
def execBsfr (v : Cond) (i : Bool) (d : Disp) (s : State) : Host.Outcome State Fault Refusal :=
  if v = .un then .refused .illFormed else callR (s.condFalse v) i d s

/-- BSFA (R204): absolute, if the condition is not CC; `un` is no operand. -/
def execBsfa (v : Cond) (i : Bool) (a : Addr) (s : State) : Host.Outcome State Fault Refusal :=
  if v = .un then .refused .illFormed else callB (s.condFalse v) i a s

/-- BSNR (R205): relative, if the register is not zero. -/
def execBsnr (r : Reg) (i : Bool) (d : Disp) (s : State) : Host.Outcome State Fault Refusal :=
  callR (s.nonZero r) i d s

/-- BSNA (R206): absolute, if the register is not zero. -/
def execBsna (r : Reg) (i : Bool) (a : Addr) (s : State) : Host.Outcome State Fault Refusal :=
  callB (s.nonZero r) i a s

/-- BSXA (R207): to the address indexed by r3. -/
def execBsxa (i : Bool) (a : Addr) (s : State) : Host.Outcome State Fault Refusal :=
  andThen (s.eaX i a) fun (ea, s1) => .next (s1.call 3 ea (3 + indCycles i))

/-- ZBSR (R208): relative to byte 0 of page 0. -/
def execZbsr (i : Bool) (d : Disp) (s : State) : Host.Outcome State Fault Refusal :=
  let (ea, s1) := s.eaZ0 i d
  .next (s1.call 2 ea (3 + indCycles i))

/-- RETC (R209): return, if the condition is `un` or CC. -/
def execRetc (v : Cond) (s : State) : Host.Outcome State Fault Refusal :=
  if s.condTrue v then
    let (a, s1) := s.pop
    .next (s1.jump a 3)
  else .next (s.retire 1 3)

/-- RETE (R210): return and clear II, if the condition is `un` or CC. -/
def execRete (v : Cond) (s : State) : Host.Outcome State Fault Refusal :=
  if s.condTrue v then .next (s.returnEnabling 3) else .next (s.retire 1 3)

end Sys2Proof.Machine
end

