-- ==== Sys2Proof/Machine/Undefined.lean ====
section
/-! DEFINITION. The undefined and indeterminate first bytes: 30_encoding.md R122, R123. -/

namespace Sys2Proof.Machine

/-- First byte $00: no meaning (R123). -/
def execUndef00 (_s : State) : Host.Outcome State Fault Refusal := .refused (.undefinedOpcode 0x00)

/-- First byte $90: no meaning (R122). -/
def execUndef90 (_s : State) : Host.Outcome State Fault Refusal := .refused (.undefinedOpcode 0x90)

/-- First byte $91: no meaning (R122). -/
def execUndef91 (_s : State) : Host.Outcome State Fault Refusal := .refused (.undefinedOpcode 0x91)

/-- First byte $B6: no meaning (R122). -/
def execUndefB6 (_s : State) : Host.Outcome State Fault Refusal := .refused (.undefinedOpcode 0xB6)

/-- First byte $B7: no meaning (R122). -/
def execUndefB7 (_s : State) : Host.Outcome State Fault Refusal := .refused (.undefinedOpcode 0xB7)

/-- First byte $C4: no meaning (R122). -/
def execUndefC4 (_s : State) : Host.Outcome State Fault Refusal := .refused (.undefinedOpcode 0xC4)

/-- First byte $C5: no meaning (R122). -/
def execUndefC5 (_s : State) : Host.Outcome State Fault Refusal := .refused (.undefinedOpcode 0xC5)

/-- First byte $C6: no meaning (R122). -/
def execUndefC6 (_s : State) : Host.Outcome State Fault Refusal := .refused (.undefinedOpcode 0xC6)

/-- First byte $C7: no meaning (R122). -/
def execUndefC7 (_s : State) : Host.Outcome State Fault Refusal := .refused (.undefinedOpcode 0xC7)

end Sys2Proof.Machine
end

