-- ==== Sys2Proof/Machine/Dispatch.lean ====
section
/-! DEFINITION. One arm for each instruction: a direct call of its meaning. -/

namespace Sys2Proof.Machine

/-- What an instruction does, given the state after its bytes are fetched, `pc` still at its first byte. -/
def exec (i : Instr) (s : State) : Host.Outcome State Fault Refusal :=
  match i with
  | .ldpl b a => Sys2Proof.Machine.execLdpl b a s
  | .stpl b a => Sys2Proof.Machine.execStpl b a s
  | .spsu => Sys2Proof.Machine.execSpsu s
  | .spsl => Sys2Proof.Machine.execSpsl s
  | .halt => Sys2Proof.Machine.execHalt s
  | .cpsu m => Sys2Proof.Machine.execCpsu m s
  | .cpsl m => Sys2Proof.Machine.execCpsl m s
  | .ppsu m => Sys2Proof.Machine.execPpsu m s
  | .ppsl m => Sys2Proof.Machine.execPpsl m s
  | .lpsu => Sys2Proof.Machine.execLpsu s
  | .lpsl => Sys2Proof.Machine.execLpsl s
  | .zbrr b d => Sys2Proof.Machine.execZbrr b d s
  | .bxa b a => Sys2Proof.Machine.execBxa b a s
  | .tpsu m => Sys2Proof.Machine.execTpsu m s
  | .tpsl m => Sys2Proof.Machine.execTpsl m s
  | .zbsr b d => Sys2Proof.Machine.execZbsr b d s
  | .bsxa b a => Sys2Proof.Machine.execBsxa b a s
  | .nop => Sys2Proof.Machine.execNop s
  | .undef00 => Sys2Proof.Machine.execUndef00 s
  | .undef90 => Sys2Proof.Machine.execUndef90 s
  | .undef91 => Sys2Proof.Machine.execUndef91 s
  | .undefB6 => Sys2Proof.Machine.execUndefB6 s
  | .undefB7 => Sys2Proof.Machine.execUndefB7 s
  | .undefC4 => Sys2Proof.Machine.execUndefC4 s
  | .undefC5 => Sys2Proof.Machine.execUndefC5 s
  | .undefC6 => Sys2Proof.Machine.execUndefC6 s
  | .undefC7 => Sys2Proof.Machine.execUndefC7 s
  | .lodz r => Sys2Proof.Machine.execLodz r s
  | .lodi r v => Sys2Proof.Machine.execLodi r v s
  | .lodr r b d => Sys2Proof.Machine.execLodr r b d s
  | .loda r b x a => Sys2Proof.Machine.execLoda r b x a s
  | .retc v => Sys2Proof.Machine.execRetc v s
  | .bctr v b d => Sys2Proof.Machine.execBctr v b d s
  | .bcta v b a => Sys2Proof.Machine.execBcta v b a s
  | .eorz r => Sys2Proof.Machine.execEorz r s
  | .eori r v => Sys2Proof.Machine.execEori r v s
  | .eorr r b d => Sys2Proof.Machine.execEorr r b d s
  | .eora r b x a => Sys2Proof.Machine.execEora r b x a s
  | .redc r => Sys2Proof.Machine.execRedc r s
  | .rete v => Sys2Proof.Machine.execRete v s
  | .bstr v b d => Sys2Proof.Machine.execBstr v b d s
  | .bsta v b a => Sys2Proof.Machine.execBsta v b a s
  | .andz r => Sys2Proof.Machine.execAndz r s
  | .andi r v => Sys2Proof.Machine.execAndi r v s
  | .andr r b d => Sys2Proof.Machine.execAndr r b d s
  | .anda r b x a => Sys2Proof.Machine.execAnda r b x a s
  | .rrr r => Sys2Proof.Machine.execRrr r s
  | .rede r port => Sys2Proof.Machine.execRede r port s
  | .brnr r b d => Sys2Proof.Machine.execBrnr r b d s
  | .brna r b a => Sys2Proof.Machine.execBrna r b a s
  | .iorz r => Sys2Proof.Machine.execIorz r s
  | .iori r v => Sys2Proof.Machine.execIori r v s
  | .iorr r b d => Sys2Proof.Machine.execIorr r b d s
  | .iora r b x a => Sys2Proof.Machine.execIora r b x a s
  | .redd r => Sys2Proof.Machine.execRedd r s
  | .bsnr r b d => Sys2Proof.Machine.execBsnr r b d s
  | .bsna r b a => Sys2Proof.Machine.execBsna r b a s
  | .addz r => Sys2Proof.Machine.execAddz r s
  | .addi r v => Sys2Proof.Machine.execAddi r v s
  | .addr r b d => Sys2Proof.Machine.execAddr r b d s
  | .adda r b x a => Sys2Proof.Machine.execAdda r b x a s
  | .dar r => Sys2Proof.Machine.execDar r s
  | .bcfr v b d => Sys2Proof.Machine.execBcfr v b d s
  | .bcfa v b a => Sys2Proof.Machine.execBcfa v b a s
  | .subz r => Sys2Proof.Machine.execSubz r s
  | .subi r v => Sys2Proof.Machine.execSubi r v s
  | .subr r b d => Sys2Proof.Machine.execSubr r b d s
  | .suba r b x a => Sys2Proof.Machine.execSuba r b x a s
  | .wrtc r => Sys2Proof.Machine.execWrtc r s
  | .bsfr v b d => Sys2Proof.Machine.execBsfr v b d s
  | .bsfa v b a => Sys2Proof.Machine.execBsfa v b a s
  | .strz r => Sys2Proof.Machine.execStrz r s
  | .strr r b d => Sys2Proof.Machine.execStrr r b d s
  | .stra r b x a => Sys2Proof.Machine.execStra r b x a s
  | .rrl r => Sys2Proof.Machine.execRrl r s
  | .wrte r port => Sys2Proof.Machine.execWrte r port s
  | .birr r b d => Sys2Proof.Machine.execBirr r b d s
  | .bira r b a => Sys2Proof.Machine.execBira r b a s
  | .comz r => Sys2Proof.Machine.execComz r s
  | .comi r v => Sys2Proof.Machine.execComi r v s
  | .comr r b d => Sys2Proof.Machine.execComr r b d s
  | .coma r b x a => Sys2Proof.Machine.execComa r b x a s
  | .wrtd r => Sys2Proof.Machine.execWrtd r s
  | .tmi r m => Sys2Proof.Machine.execTmi r m s
  | .bdrr r b d => Sys2Proof.Machine.execBdrr r b d s
  | .bdra r b a => Sys2Proof.Machine.execBdra r b a s

end Sys2Proof.Machine
end

