-- ==== Sys2Proof/Machine/Fetch.lean ====
section
/-! DEFINITION. Fetching an instruction's bytes, and placing one where the next step fetches it. -/

namespace Sys2Proof.Machine

/-- The next instruction and the state after its bytes are read, in address order within the page (20_memory.md R66,
R81): byte 0 says how many bytes there are (30_encoding.md R90). `pc` stays at byte 0 until the instruction ends
(10_state.md R28). -/
def State.fetch (s : State) : Instr × State :=
  let (b0, s1) := s.memRead s.pc
  match template b0 with
  | .one i => (i, s1)
  | .two k =>
    let (b1, s2) := s1.memRead (inpage s.pc 1)
    (k b1, s2)
  | .three k =>
    let (b1, s2) := s1.memRead (inpage s.pc 1)
    let (b2, s3) := s2.memRead (inpage s.pc 2)
    (k b1 b2, s3)

/-- MemMap with an address that answers its stored byte; unchanged if it does already. -/
def mapStored (map : List Region) (a : Addr) : List Region :=
  match memKind map a.toNat with
  | .ram | .rom => map
  | .device | .absent => { base := a.toNat, size := 1, kind := .ram } :: map

/-- A byte put at an address from outside the machine, the address answering it. -/
def State.place (s : State) (a : Addr) (v : Byte) : State :=
  { s with
    mem := s.mem.write a.toNat v
    cfg := { s.cfg with memMap := mapStored s.cfg.memMap a } }

/-- The three bytes of `w`, bits 7..0 first, put at `pc` and the next two addresses of its page, with the machine running
and neither a reset nor an interrupt request at the coming boundary (log entry 23). -/
def State.placeInstr (s : State) (w : Nat) : State :=
  let s1 := ((s.place s.pc (BitVec.ofNat 8 w)).place (inpage s.pc 1) (BitVec.ofNat 8 (w / 256))).place
    (inpage s.pc 2) (BitVec.ofNat 8 (w / 65536))
  { s1 with
    waiting := false
    env := { s1.env with resets := [], intReqs := [] } }

end Sys2Proof.Machine
end

