-- ==== Sys2Proof/Machine/Cycle.lean ====
section
/-! DEFINITION. What one step is: the boundary first, then an instruction. -/

namespace Sys2Proof.Machine

/-- An interrupt request is recognised (60_exceptions.md R274): the line is 1 and II is 0. -/
def State.accepts (s : State) (req : Bool) : Bool := req && !s.ii

/-- One step (00_scope.md R19): a reset if the RESET line brings one, over everything else (70_reset_and_hazards.md
R300); else an interrupt accepted if one is recognised, running or waiting (R274, R277); else nothing if waiting
(10_state.md R55); else the instruction at `pc`. -/
def State.runStep (s : State) : Host.Outcome State Fault Refusal :=
  match s.drawReset with
  | (some v, s1) => .next (s1.resetEvent v)
  | (none, s1) =>
    let (req, s2) := s1.drawIntReq
    if s2.accepts req then .next s2.takeInterrupt
    else if s2.waiting then .next s2
    else
      let (i, s3) := s2.fetch
      exec i s3

end Sys2Proof.Machine
end

