-- ==== Sys2Proof/Safety.lean ====
section
/-! DEFINITION. What counts as a good state and a safe run. -/

namespace Sys2Proof.Machine

/-- What every state of the machine keeps: memory in its canonical form (20_memory.md R60), and the PSU bits that are no
latches, 7, 4 and 3, zero (10_state.md R35, R38). -/
def State.good (s : State) : Bool := s.mem.wf && s.psu &&& 0b10011000#8 == 0

/-- A run is safe if no step is refused: the one way the 2650 stops being described (60_exceptions.md R270, R271). -/
def State.safeFor : Nat → State → Prop
  | 0, _ => True
  | n + 1, s => ∃ t, step s = .next t ∧ State.safeFor n t

end Sys2Proof.Machine
end

