-- ==== Sys2Proof/Certificates/Slice0/Obligations.lean ====
section
/-! DEFINITION. The statements for the provers, and the words they are written in. -/

namespace Sys2Proof

/-! ### Kinds of instruction -/

/-- The instructions that can write CC as they please, or leave it meaningless (10_state.md R41, R42). -/
def Instr.freesCC : Instr → Bool
  | .lpsl | .ppsl _ | .ldpl _ _ | .dar _ => true
  | _ => false

/-- The instructions that write the mode bits of PSL (R40). -/
def Instr.writesModes : Instr → Bool
  | .lpsl | .ppsl _ | .cpsl _ | .ldpl _ _ => true
  | _ => false

/-- The stores to memory. -/
def Instr.stores : Instr → Bool
  | .strr _ _ _ | .stra _ _ _ _ | .stpl _ _ => true
  | _ => false

/-- The subroutine branches. -/
def Instr.calls : Instr → Bool
  | .bstr _ _ _ | .bsta _ _ _ | .bsfr _ _ _ | .bsfa _ _ _ | .bsnr _ _ _ | .bsna _ _ _ | .bsxa _ _ | .zbsr _ _ => true
  | _ => false

/-- The returns. -/
def Instr.returns : Instr → Bool
  | .retc _ | .rete _ => true
  | _ => false

/-- The instructions that write PSU by name. -/
def Instr.writesPsu : Instr → Bool
  | .lpsu | .cpsu _ | .ppsu _ => true
  | _ => false

/-- The branches. -/
def Instr.branches : Instr → Bool
  | .bctr _ _ _ | .bcta _ _ _ | .bcfr _ _ _ | .bcfa _ _ _ | .brnr _ _ _ | .brna _ _ _ | .birr _ _ _ | .bira _ _ _
  | .bdrr _ _ _ | .bdra _ _ _ | .bxa _ _ | .zbrr _ _ => true
  | _ => false

/-- The instructions that read a pin or a port (60_exceptions.md R272). -/
def Instr.readsEnv : Instr → Bool
  | .spsu | .tpsu _ | .redc _ | .redd _ | .rede _ _ => true
  | _ => false

end Sys2Proof

namespace Sys2Proof.Machine

/-! ### What a reader sees of a state

A statement says what an instruction does as one equation between views: the fields it names are what the rule gives,
every field it does not name is as before. Memory is seen through the read of one byte, the registers cell by cell. -/

/-- All of a state, registers as cells and memory as bytes read. -/
structure View where
  /-- The register of a bank and a number; r0 is in no bank. -/
  cell : Bool → Reg → Byte
  psu : Byte
  psl : Psl
  /-- The entries of the Return Address Stack. -/
  entry : BitVec 3 → Addr
  pc : Addr
  waiting : Bool
  /-- The byte stored at each address. -/
  byte : Addr → Byte
  env : Env
  trace : List Event
  cycles : Nat
  draws : Nat
  cfg : Config

/-- The register of bank `b` with number `r` (10_state.md R21). -/
def State.cell (s : State) (b : Bool) (r : Reg) : Byte :=
  match r with
  | .r0 => s.r0
  | .r1 => if b then s.bank1.r1 else s.bank0.r1
  | .r2 => if b then s.bank1.r2 else s.bank0.r2
  | .r3 => if b then s.bank1.r3 else s.bank0.r3

/-- `RAS[k]` (R47). -/
def State.entry (s : State) (k : BitVec 3) : Addr := s.ras[k.toNat]'k.isLt

def State.view (s : State) : View :=
  { cell := s.cell, psu := s.psu, psl := s.psl, entry := s.entry, pc := s.pc, waiting := s.waiting, byte := s.peek,
    env := s.env, trace := s.trace, cycles := s.cycles, draws := s.draws, cfg := s.cfg }

/-- The instruction answers a next state, and that state looks like `v`. -/
def Runs (i : Instr) (s : State) (v : View) : Prop := ∃ t, exec i s = .next t ∧ t.view = v

/-- A view after the accesses that ended in the state `u`: memory reads change the environment's scripts, the trace and
the counter of free values, nothing else. -/
def View.accessed (v : View) (u : State) : View := { v with env := u.env, trace := u.trace, draws := u.draws }

/-- Cells with one written: of bank `bank`, or r0 (00_scope.md R10). -/
def setCell (c : Bool → Reg → Byte) (bank : Bool) (r : Reg) (v : Byte) (b : Bool) (q : Reg) : Byte :=
  if q = r ∧ (q = .r0 ∨ b = bank) then v else c b q

/-- `x[r]` (R10). -/
def State.x (s : State) (r : Reg) : Byte := s.cell s.psl.rs r

/-- `SetCC` of R13, by the value of the byte as a number. -/
def signCode (v : Byte) : BitVec 2 := if v.toNat = 0 then 0b00 else if v.toNat ≤ 127 then 0b01 else 0b10

/-- A 15-bit address from a page and an offset taken modulo 8192. -/
def addressAt (page : Nat) (offset : Int) : Addr := BitVec.ofNat 15 (page * 8192 + (offset % 8192).toNat)

/-- Cycles with the indirect addressing sequence (30_encoding.md R112). -/
def cyclesOf (direct : Nat) (i : Bool) : Nat := if i then direct + 2 else direct

/-! ### The four formats of the arithmetic group (40_load_store.md R140)

`eff p a m` is the register operand's new value and the new PSL, from the PSL before, the register operand `a` and the
other operand `m`. -/

/-- Format Z: r0 and `x[r]`, the result in r0. -/
def RunsZ (ins : Reg → Instr) (eff : Psl → Byte → Byte → Byte × Psl) (r : Reg) (s : State) : Prop :=
  let y := eff s.psl (s.x .r0) (s.x r)
  Runs (ins r) s
    { s.view with
      cell := setCell s.cell s.psl.rs .r0 y.1, psl := y.2, pc := inpage s.pc 1, cycles := s.cycles + 2 }

/-- Format I. -/
def RunsI (ins : Reg → Byte → Instr) (eff : Psl → Byte → Byte → Byte × Psl) : Prop :=
  ∀ (r : Reg) (v : Byte) (s : State),
    let y := eff s.psl (s.x r) v
    Runs (ins r v) s
      { s.view with
        cell := setCell s.cell s.psl.rs r y.1, psl := y.2, pc := inpage s.pc 2, cycles := s.cycles + 2 }

/-- Format R: the operand is the byte read at the address `State.eaR` gives. -/
def RunsR (ins : Reg → Bool → Disp → Instr) (eff : Psl → Byte → Byte → Byte × Psl) : Prop :=
  ∀ (r : Reg) (i : Bool) (d : Disp) (s : State),
    let e := s.eaR i d
    let m := e.2.memRead e.1
    let y := eff s.psl (s.x r) m.1
    Runs (ins r i d) s
      { s.view.accessed m.2 with
        cell := setCell s.cell s.psl.rs r y.1, psl := y.2, pc := inpage s.pc 2, cycles := s.cycles + cyclesOf 3 i }

/-- The registers after the index register is stepped (30_encoding.md R106). -/
def State.stepped (s : State) (r : Reg) (x : IndexCtl) : Bool → Reg → Byte :=
  match x with
  | .inc => setCell s.cell s.psl.rs r (s.x r + 1)
  | .dec => setCell s.cell s.psl.rs r (s.x r - 1)
  | .none | .plain => s.cell

/-- The address in a format A instruction, in its page, or the pointer stored there (R105). -/
def State.baseOf (s : State) (r : Reg) (i : Bool) (x : IndexCtl) (a : Offset) : Addr × State :=
  (s.stepIndex r x).resolve i (addressAt (page s.pc).toNat a.toNat)

/-- The effective address of format A (R105, R106): the stepped index register added in the page of the base. -/
def State.eaOf (s : State) (r : Reg) (i : Bool) (x : IndexCtl) (a : Offset) : Addr :=
  let base := (s.baseOf r i x a).1
  if x = .none then base
  else addressAt (page base).toNat ((off base).toNat + (s.stepped r x s.psl.rs r).toNat)

/-- The index addition stays in the page, or INDEX_WRAP says that it wraps (20_memory.md R69). -/
def State.indexFits (s : State) (r : Reg) (i : Bool) (x : IndexCtl) (a : Offset) : Prop :=
  x = .none ∨ s.cfg.indexWrap = .wrap ∨
    (off (s.baseOf r i x a).1).toNat + (s.stepped r x s.psl.rs r).toNat ≤ 8191

/-- The operand register of format A: r0 with indexing (R99). -/
def operandReg (r : Reg) (x : IndexCtl) : Reg := if x = .none then r else .r0

/-- Format A. -/
def RunsA (ins : Reg → Bool → IndexCtl → Offset → Instr) (eff : Psl → Byte → Byte → Byte × Psl) : Prop :=
  ∀ (r : Reg) (i : Bool) (x : IndexCtl) (a : Offset) (s : State), s.indexFits r i x a →
    let m := (s.baseOf r i x a).2.memRead (s.eaOf r i x a)
    let o := operandReg r x
    let y := eff s.psl (s.stepped r x s.psl.rs o) m.1
    Runs (ins r i x a) s
      { s.view.accessed m.2 with
        cell := setCell (s.stepped r x) s.psl.rs o y.1, psl := y.2, pc := inpage s.pc 3
        cycles := s.cycles + cyclesOf 4 i }

/-- The effect of a load: the operand, CC its sign (R141 to R144). -/
def loadEffect (p : Psl) (_a m : Byte) : Byte × Psl := (m, { p with cc := signCode m })

/-- The effect of a logical operation: only CC changes in PSL (42_logical.md R165). -/
def logicEffect (f : Bool → Bool → Bool) (p : Psl) (a m : Byte) : Byte × Psl :=
  let y : Byte := BitVec.ofFnLE fun k : Fin 8 => f (a.getLsbD k) (m.getLsbD k)
  (y, { p with cc := signCode y })

/-- The effect of an add (41_arithmetic.md R150, R154): the sum of two bytes and the carry that enters, the carries out
of bits 7 and 3, and OVF if the signed sum does not fit. -/
def addEffect (p : Psl) (a m : Byte) : Byte × Psl :=
  let cin : Nat := if p.wc ∧ p.c then 1 else 0
  let y := BitVec.ofNat 8 (a.toNat + m.toNat + cin)
  (y, { p with
        c := decide (a.toNat + m.toNat + cin ≥ 256)
        idc := decide (a.toNat % 16 + m.toNat % 16 + cin ≥ 16)
        ovf := decide (a.toInt + m.toInt + cin > 127 ∨ a.toInt + m.toInt + cin < -128)
        cc := signCode y })

/-- The effect of a subtract (R152, R154): the difference with the borrow that enters, C and IDC that no borrow came out
of bits 7 and 3, and OVF if the signed difference does not fit. -/
def subEffect (p : Psl) (a m : Byte) : Byte × Psl :=
  let bin : Int := if p.wc ∧ ¬ p.c then 1 else 0
  let y := BitVec.ofInt 8 (a.toNat - m.toNat - bin)
  (y, { p with
        c := decide (m.toNat + bin ≤ a.toNat)
        idc := decide (m.toNat % 16 + bin ≤ a.toNat % 16)
        ovf := decide (a.toInt - m.toInt - bin > 127 ∨ a.toInt - m.toInt - bin < -128)
        cc := signCode y })

/-- The condition code of a compare (45_compare.md R220). -/
def orderCode (a b : Int) : BitVec 2 := if b < a then 0b01 else if a = b then 0b00 else 0b10

/-- The effect of a compare: CC alone, as unsigned numbers if COM is set, else as signed ones (R220). -/
def compareEffect (p : Psl) (a m : Byte) : Byte × Psl :=
  (a, { p with cc := if p.com then orderCode a.toNat m.toNat else orderCode a.toInt m.toInt })

/-! ### Branches -/

/-- The view after a relative branch (43_branch.md R180): `c` are the registers, `u` the state its address is formed
in. -/
def State.afterBranchR (s u : State) (c : Bool → Reg → Byte) (taken : Bool) (i : Bool) (d : Disp) : View :=
  let e := u.eaR i d
  if taken then
    { s.view.accessed e.2 with cell := c, pc := e.1, cycles := s.cycles + cyclesOf 3 i }
  else { s.view with cell := c, pc := inpage s.pc 2, cycles := s.cycles + 3 }

/-- The view after an absolute branch. -/
def State.afterBranchB (s u : State) (c : Bool → Reg → Byte) (taken : Bool) (i : Bool) (a : Addr) : View :=
  let e := u.eaB i a
  if taken then
    { s.view.accessed e.2 with cell := c, pc := e.1, cycles := s.cycles + cyclesOf 3 i }
  else { s.view with cell := c, pc := inpage s.pc 3, cycles := s.cycles + 3 }

/-- A view with `ret` pushed (10_state.md R48). -/
def State.pushed (s : State) (v : View) (ret : Addr) : View :=
  { v with
    psu := (s.psu &&& 0b11111000#8) ||| (s.sp + 1).setWidth 8
    entry := fun k => if k = s.sp + 1 then ret else s.entry k }

/-- A view with the stack popped (R49). -/
def State.popped (s : State) (v : View) : View :=
  { v with psu := (s.psu &&& 0b11111000#8) ||| (s.sp - 1).setWidth 8, pc := s.entry s.sp }

/-- The view after a relative subroutine branch (44_subroutine.md R200). -/
def State.afterCallR (s : State) (taken : Bool) (i : Bool) (d : Disp) : View :=
  let v := s.afterBranchR s s.cell taken i d
  if taken then s.pushed v (inpage s.pc 2) else v

/-- The view after an absolute subroutine branch. -/
def State.afterCallB (s : State) (taken : Bool) (i : Bool) (a : Addr) : View :=
  let v := s.afterBranchB s s.cell taken i a
  if taken then s.pushed v (inpage s.pc 3) else v

/-- The condition is met (30_encoding.md R111). -/
def State.holds (s : State) (v : Cond) : Bool := decide (v = .un ∨ v.code = s.psl.cc)

/-- A subroutine branch is taken: its condition is met, or is not CC for the condition-false ones, or its register is not
zero; BSXA and ZBSR always (44_subroutine.md R201 to R208). -/
def State.takesCall (s : State) : Instr → Bool
  | .bstr v _ _ | .bsta v _ _ => s.holds v
  | .bsfr v _ _ | .bsfa v _ _ => !s.holds v
  | .bsnr r _ _ | .bsna r _ _ => decide (s.x r ≠ 0)
  | .bsxa _ _ | .zbsr _ _ => true
  | _ => false

/-- The base of an indexed branch (R109). -/
def State.eaIndexed (s : State) (i : Bool) (a : Addr) : Addr :=
  let base := (s.eaB i a).1
  addressAt (page base).toNat ((off base).toNat + (s.x .r3).toNat)

/-- The index addition of an indexed branch stays in the page, or INDEX_WRAP says that it wraps (R69). -/
def State.branchFits (s : State) (i : Bool) (a : Addr) : Prop :=
  s.cfg.indexWrap = .wrap ∨ (off (s.eaB i a).1).toNat + (s.x .r3).toNat ≤ 8191

/-! ### Stores -/

/-- A view after the byte `v` is written at `ea` in the state `u` (20_memory.md R76): RAM takes it, a device is told,
nothing else changes; every other address reads as before. -/
def State.stores (s u : State) (ea : Addr) (v : Byte) (w : View) : View :=
  { w with
    byte := fun b => if b = ea ∧ s.kindAt ea = .ram then v else s.peek b
    env := u.env
    draws := u.draws
    trace := if s.kindAt ea = .device then u.trace ++ [.deviceWrite ea v] else u.trace }

/-! ### Status word -/

/-- A PSU byte as SPSU and TPSU see it (47_psw.md R240). -/
def State.psuSeen (s : State) (pin : Bool) : Byte := (if pin then 0x80#8 else 0x00#8) ||| (s.psu &&& 0b01100111#8)

/-- The rows of the opcode table without a meaning, with their first bytes (30_encoding.md R122, R123). -/
def undefinedRows : List (Instr × Byte) :=
  [(.undef00, 0x00), (.undef90, 0x90), (.undef91, 0x91), (.undefB6, 0xB6), (.undefB7, 0xB7), (.undefC4, 0xC4),
    (.undefC5, 0xC5), (.undefC6, 0xC6), (.undefC7, 0xC7)]

/-- An outcome with its next state changed by `f`. -/
def mapNext (f : State → State) (x : Host.Outcome State Fault Refusal) : Host.Outcome State Fault Refusal :=
  match x with
  | .next t => .next (f t)
  | .fault r => .fault r
  | .refused r => .refused r

/-! ### Steps -/

/-- No reset comes at the coming boundary (70_reset_and_hazards.md R300). -/
def State.quiet (s : State) : Prop := ∀ v, s.env.resets.head? ≠ some (some v)

/-- The request line at the coming boundary (60_exceptions.md R274). -/
def State.request (s : State) : Bool := s.env.intReqs.head?.getD false

/-- The state with the samples of one boundary taken off the scripts. -/
def State.sampled (s : State) : State :=
  { s with env := { s.env with resets := s.env.resets.tail, intReqs := s.env.intReqs.tail } }

/-- Pushes of a list of addresses, the first one first. -/
def State.pushAll (s : State) (as : List Addr) : State := as.foldl State.push s

/-- The addresses of `n` pops, in order. -/
def State.popAll : Nat → State → List Addr
  | 0, _ => []
  | n + 1, s => s.pop.1 :: State.popAll n s.pop.2

/-- The vector byte of the coming acceptance (60_exceptions.md R276), and the state the ZBSR's address is formed in: the
boundary's samples and the byte taken, the WAIT state left, the acknowledgement recorded. -/
def State.acknowledged (s : State) : Byte × State :=
  let u := s.sampled
  State.drawIntVector
    { u with
      waiting := false
      trace := u.trace ++ (if u.waiting then [.waitLine false, .intAck] else [.intAck]) }

/-- The bytes at `pc` are those of `i`, in stored memory. -/
def State.holdsInstr (s : State) (i : Instr) : Prop :=
  ∀ k b, (encode i)[k]? = some b →
    s.stored (inpage s.pc (BitVec.ofNat 13 k)) ∧ s.peek (inpage s.pc (BitVec.ofNat 13 k)) = b

/-- `n` bytes read one after the other from `p` in its page, each once (20_memory.md R66, R81), and the state after it. -/
def State.readRun : Nat → Addr → State → List Byte × State
  | 0, _, s => ([], s)
  | n + 1, p, s =>
    let m := s.memRead p
    let rest := State.readRun n (inpage p 1) m.2
    (m.1 :: rest.1, rest.2)

/-- The address of the byte after an instruction (00_scope.md R16). -/
def State.nextOf (s : State) (i : Instr) : Addr := inpage s.pc (BitVec.ofNat 13 (encode i).length)

end Sys2Proof.Machine

section

open Sys2Proof Sys2Proof.Machine

/-! ### Encoding -/

/-- Decoding the bytes of a well-formed instruction, whatever follows them, gives the instruction and what follows
(30_encoding.md, R96 to R102, R120, R121). -/
def Obligations.DecodeOfEncode : Prop :=
  ∀ (i : Instr) (rest : List Byte), i.wellFormed = true → decode (encode i ++ rest) = .ok (i, rest)

/-- Whatever bytes decode, they are the encoding of the instruction found, which is well-formed, and what follows it: no
bit of an instruction is dropped (30_encoding.md R125 (b)). -/
def Obligations.EncodeOfDecode : Prop :=
  ∀ (bytes rest : List Byte) (i : Instr), decode bytes = .ok (i, rest) →
    i.wellFormed = true ∧ bytes = encode i ++ rest

/-- The length read from byte 0 by R93, where it defines one, is the number of bytes the decoder takes. -/
def Obligations.LengthIsThatOfByteZero : Prop :=
  ∀ (b0 : Byte) (n : Nat) (tail rest : List Byte) (i : Instr), lengthOf b0 = some n →
    decode (b0 :: tail) = .ok (i, rest) → (b0 :: tail).length = n + rest.length

/-- Words written out from the spec's encodings, one of each format (40_load_store.md, 42_logical.md, 43_branch.md,
44_subroutine.md, 46_io.md, 47_psw.md, 48_rotate_misc.md). -/
def Obligations.WrittenWordsDecode : Prop :=
  decode [0x02] = .ok (.lodz .r2, []) ∧
  decode [0x06, 0xF8] = .ok (.lodi .r2 0xF8, []) ∧
  decode [0x0A, 0x85] = .ok (.lodr .r2 true 5, []) ∧
  decode [0x0F, 0x21, 0x00] = .ok (.loda .r3 false .inc 0x0100, []) ∧
  decode [0x9C, 0x80, 0x40] = .ok (.bcfa .eq true 0x0040, []) ∧
  decode [0x9B, 0x78] = .ok (.zbrr false 0x78, []) ∧
  decode [0xBF, 0x02, 0x00] = .ok (.bsxa false 0x0200, []) ∧
  decode [0x37] = .ok (.rete .un, []) ∧
  decode [0xD6, 0xFF] = .ok (.wrte .r2 0xFF, []) ∧
  decode [0x75, 0x08] = .ok (.cpsl 0x08, []) ∧
  decode [0x40] = .ok (.halt, []) ∧
  decode [0x10, 0x21, 0x00] = .ok (.ldpl false 0x2100, [])

/-! ### Steps, the interrupt, reset -/

/-- With no reset and no recognised interrupt at the boundary and the machine running, a step is the meaning of the
well-formed instruction whose bytes are read at `pc` (00_scope.md R19), the boundary's samples taken and its bytes read in
address order, each once, whatever kind of memory answers them (20_memory.md R66, R81); where they lie in stored memory,
reading them changes nothing. What the scripts of samples are is log entries 8 to 10, the wrap of the fetch in its page log
entry 7, the order log entry 21. -/
def Obligations.StepRunsTheInstructionAtPc : Prop :=
  ∀ (i : Instr) (s : State), i.wellFormed = true → s.quiet → (s.request && !s.ii) = false → s.waiting = false →
    let u := State.readRun (encode i).length s.pc s.sampled
    (u.1 = encode i → step s = exec i u.2) ∧ (s.holdsInstr i → step s = exec i s.sampled)

/-- A waiting machine with no reset and no recognised interrupt at the boundary stays as it is (10_state.md R55,
48_rotate_misc.md R263). -/
def Obligations.WaitingStepChangesNothing : Prop :=
  ∀ s : State, s.quiet → (s.request && !s.ii) = false → s.waiting = true → step s = .next s.sampled

/-- An interrupt request with II = 0, running or waiting, is accepted: II set, `pc` pushed, control to the address the
vector byte gives as a ZBSR, the WAIT state left; PSL, F, the registers and memory as before. That the device supplies the
byte, the level sampled at boundaries and the cycles left open are the model's choices from the spec's decisions D8, D9
and R279: log entries 9, 12, 13. -/
def Obligations.InterruptAcceptance : Prop :=
  ∀ s : State, s.quiet → s.request = true → s.ii = false →
    let v := s.acknowledged
    let e := v.2.resolve (v.1.getLsbD 7) (addressAt 0 (v.1.extractLsb' 0 7).toInt)
    ∃ n, ∃ t, step s = .next t ∧
      t.view =
        { s.view.accessed e.2 with
          psu := (s.psu &&& 0b11011000#8) ||| 0b00100000#8 ||| (s.sp + 1).setWidth 8
          entry := fun k => if k = s.sp + 1 then s.pc else s.entry k
          pc := e.1
          waiting := false
          draws := e.2.draws + 1
          cycles := s.cycles + n }

/-- With II = 1 the request line makes no difference to a step that no reset takes (10_state.md R37, 60_exceptions.md R274). -/
def Obligations.InhibitMasksTheRequest : Prop :=
  ∀ (s : State) (req : Bool) (rest : List Bool), s.quiet → s.ii = true →
    step { s with env := { s.env with intReqs := req :: rest } } =
      step { s with env := { s.env with intReqs := false :: rest } }

/-- A reset event replaces the processor's state whatever the machine was doing: `pc` 0, II 0, running, F, SP, PSL, the
registers and the stack the values that come with the event; memory as it was (70_reset_and_hazards.md R300, R301). The
offset 0 and II 0 are the spec's decisions D2 and D4 (log entry 3); how the event comes is log entry 10. -/
def Obligations.ResetEvent : Prop :=
  ∀ (s : State) (v : ResetValues) (rest : List (Option ResetValues)), s.env.resets = some v :: rest →
    ∃ t, step s = .next t ∧
      t.pc = 0 ∧ t.waiting = false ∧ t.ii = false ∧ t.flag = v.flag ∧ t.sp = v.sp ∧ t.psu &&& 0b10011000#8 = 0 ∧
      t.psl = v.psl ∧ t.r0 = v.r0 ∧ t.bank0 = v.bank0 ∧ t.bank1 = v.bank1 ∧ t.ras = v.ras ∧
      (∀ a, t.peek a = s.peek a) ∧ t.env = { s.env with resets := rest } ∧ t.cycles = s.cycles ∧
      t.draws = s.draws ∧ t.cfg = s.cfg ∧
      t.trace = s.trace ++ (if s.waiting then [.waitLine false, .flagPin v.flag] else [.flagPin v.flag])

/-! ### Invariants and whole-machine rules -/

/-- Every step keeps memory in its canonical form and the PSU bits that are no latches, 7, 4 and 3, zero (20_memory.md
R60, 10_state.md R38), from any state that has both. -/
def Obligations.StepKeepsGoodStates : Prop :=
  ∀ s t : State, s.good = true → step s = .next t → t.good = true

/-- The state after reset has the canonical memory and the zero bits, the page bits 0, and runs: what R58 has from the
manual. The rest of the state after reset is log entries 2 to 4. -/
def Obligations.ResetIsGood : Prop :=
  State.reset.good = true ∧ page State.reset.pc = 0 ∧ State.reset.waiting = false

/-- No step changes the parameters of the machine (00_scope.md R7). -/
def Obligations.StepKeepsParameters : Prop :=
  ∀ s t : State, step s = .next t → t.cfg = s.cfg

/-- Every well-formed instruction that has a meaning completes, in every state of a 2650-B whose index additions wrap:
there is no trap and no other stop (60_exceptions.md R270). The wrap is the spec's decision D13 (log entry 6). -/
def Obligations.DefinedInstructionsComplete : Prop :=
  ∀ (i : Instr) (s : State), i.wellFormed = true → (∀ b, (i, b) ∉ undefinedRows) → s.cfg.variant = .p2650B →
    s.cfg.indexWrap = .wrap → ∃ t, exec i s = .next t

/-- The only instructions that write memory are STRR, STRA and STPL (20_memory.md R82). -/
def Obligations.OnlyStoresWriteMemory : Prop :=
  ∀ (i : Instr) (s t : State), i.stores = false → exec i s = .next t → ∀ a, t.peek a = s.peek a

/-- Only branches, subroutine branches and returns change the page bits of `pc` (10_state.md R30, 20_memory.md R71). -/
def Obligations.OnlyBranchesChangeThePage : Prop :=
  ∀ (i : Instr) (s t : State), i.branches = false → i.calls = false → i.returns = false → exec i s = .next t →
    page t.pc = page s.pc ∧ t.pc = s.nextOf i

/-- RS, WC and COM change only by LPSL, PPSL, CPSL and LDPL (10_state.md R40). -/
def Obligations.OnlyPslWritesChangeModes : Prop :=
  ∀ (i : Instr) (s t : State), i.writesModes = false → exec i s = .next t →
    t.psl.rs = s.psl.rs ∧ t.psl.wc = s.psl.wc ∧ t.psl.com = s.psl.com

/-- CC is never set to %11 but by LPSL, PPSL and LDPL, and by DAR, whose CC is meaningless (10_state.md R41, R42). -/
def Obligations.NoOtherInstructionSetsCCThree : Prop :=
  ∀ (i : Instr) (s t : State), i.freesCC = false → s.psl.cc ≠ 0b11 → exec i s = .next t → t.psl.cc ≠ 0b11

/-- F, II and SP change only by the instructions R34 names: LPSU, PPSU and CPSU, SP by a subroutine branch or return too,
II by RETE too; the stack's entries only by a subroutine branch. -/
def Obligations.WritersOfPsuAndStack : Prop :=
  ∀ (i : Instr) (s t : State), exec i s = .next t →
    (i.writesPsu = false → t.flag = s.flag) ∧
    (i.writesPsu = false → (∀ v, i ≠ .rete v) → t.ii = s.ii) ∧
    (i.writesPsu = false → i.calls = false → i.returns = false → t.sp = s.sp) ∧
    (i.calls = false → ∀ k, t.entry k = s.entry k)

/-- Only HALT enters the WAIT state, and no instruction leaves it (10_state.md R55, 60_exceptions.md R282). -/
def Obligations.OnlyHaltWaits : Prop :=
  ∀ (i : Instr) (s t : State), exec i s = .next t → t.waiting = (s.waiting || decide (i = .halt))

/-- The registers of the bank that RS does not select are neither written nor read: changing them changes nothing else in
what an instruction does (10_state.md R22). -/
def Obligations.UnselectedBankIsOutOfReach : Prop :=
  ∀ (i : Instr) (s : State) (b : Bank),
    (s.psl.rs = false →
      exec i { s with bank1 := b } = mapNext (fun t => { t with bank1 := b }) (exec i s)) ∧
    (s.psl.rs = true →
      exec i { s with bank0 := b } = mapNext (fun t => { t with bank0 := b }) (exec i s))

/-- Where every address answers its stored byte, an instruction that reads no pin and no port does not depend on the
environment's scripts and leaves them (60_exceptions.md R272). -/
def Obligations.EnvironmentIndependence : Prop :=
  ∀ (i : Instr) (s : State) (e : Env), i.readsEnv = false → (∀ a, s.stored a) →
    exec i { s with env := e } = mapNext (fun t => { t with env := e }) (exec i s)

/-- The cycle count is an observer: it influences nothing (70_reset_and_hazards.md R311). -/
def Obligations.CyclesInfluenceNothing : Prop :=
  ∀ (i : Instr) (s : State) (n : Nat),
    exec i { s with cycles := s.cycles + n } = mapNext (fun t => { t with cycles := t.cycles + n }) (exec i s)

/-! ### Stops -/

/-- The nine undefined or indeterminate first bytes decode each to its own row, whose meaning is the refusal that names
the byte, in every state; so do $10 and $11 on the plain 2650. The spec's decisions D10 and D11 (log entries 15, 16). -/
def Obligations.UndefinedBytesAreRefused : Prop :=
  (∀ row ∈ undefinedRows,
    (∀ rest, decode (row.2 :: rest) = .ok (row.1, rest)) ∧
    ∀ s : State, exec row.1 s = .refused (.undefinedOpcode row.2)) ∧
  ∀ (i : Bool) (a : Addr) (s : State), s.cfg.variant = .p2650 →
    exec (.ldpl i a) s = .refused (.undefinedOpcode 0x10) ∧ exec (.stpl i a) s = .refused (.undefinedOpcode 0x11)

/-- With INDEX_WRAP = refuse, an indexed access whose index addition leaves the page offset is refused, by every format A
instruction and by BXA and BSXA (20_memory.md R69, decision D13, log entry 6). -/
def Obligations.CrossingIndexIsRefused : Prop :=
  (∀ ins ∈ [Instr.loda, .stra, .adda, .suba, .iora, .eora, .anda, .coma],
    ∀ (r : Reg) (i : Bool) (x : IndexCtl) (a : Offset) (s : State), ¬ s.indexFits r i x a →
      exec (ins r i x a) s = .refused .indexCrossesPage) ∧
  (∀ ins ∈ [Instr.bxa, .bsxa], ∀ (i : Bool) (a : Addr) (s : State), ¬ s.branchFits i a →
    exec (ins i a) s = .refused .indexCrossesPage)

/-- A term that is no instruction is refused by its own name (30_encoding.md R111, R123; log entry 15). -/
def Obligations.IllFormedTermsAreRefused : Prop :=
  ∀ (i : Instr) (s : State), i.wellFormed = false → exec i s = .refused .illFormed

/-! ### Addresses and memory -/

/-- Relative addressing is modulo 8192 in the page of the instruction (20_memory.md R67): the displacement, a number from
-64 to 63, counts from the byte after the instruction. -/
def Obligations.RelativeAddressIsModuloPage : Prop :=
  (∀ (s : State) (d : Disp),
    s.eaR false d = (addressAt (page s.pc).toNat ((off (inpage s.pc 2)).toNat + d.toInt), s) ∧
    s.eaR true d = s.readPtr (addressAt (page s.pc).toNat ((off (inpage s.pc 2)).toNat + d.toInt))) ∧
  ∀ (s : State) (p : BitVec 2), s.pc = p ++ 0x1FFC#13 → (s.eaR false 14).1 = p ++ 0x000C#13

/-- Zero-page relative addressing (20_memory.md R72): `d` for d from 0 to 63 and 8192 + d for d from -64 to -1, in page 0
from wherever it is used, by ZBRR, by ZBSR and by an accepted interrupt; with the rule's two examples. That the
interrupt's displacement comes as a vector byte, the ZBSR's byte 1, is the model's presumption from the spec's decision D8,
general knowledge: log entry 12. -/
def Obligations.ZeroPageAddress : Prop :=
  (∀ (s : State) (d : Disp),
    (s.eaZ0 false d).2 = s ∧ (s.eaZ0 false d).1 = addressAt 0 d.toInt ∧
    ((s.eaZ0 false d).1.toNat : Int) = (if d.toInt < 0 then 8192 + d.toInt else d.toInt) ∧
    s.eaZ0 true d = s.readPtr (addressAt 0 d.toInt)) ∧
  (∀ (s : State) (d : Disp),
    (∃ t, exec (.zbrr false d) s = .next t ∧ t.pc = addressAt 0 d.toInt) ∧
    (∃ t, exec (.zbsr false d) s = .next t ∧ t.pc = addressAt 0 d.toInt) ∧
    ∀ rest, s.env.intVectors = (0#1 ++ d) :: rest → s.takeInterrupt.pc = addressAt 0 d.toInt) ∧
  ∀ s : State, (s.eaZ0 false (BitVec.ofInt 7 (-8))).1 = 8184 ∧ (s.eaZ0 false 52).1 = 52

/-- EA_B (30_encoding.md R107): the 15-bit field of an absolute branch, or the pointer stored there if indirect, not
indexed; the field is bits 6..0 of byte 1 and byte 2; a taken branch goes there with all 15 bits. -/
def Obligations.AbsoluteBranchAddress : Prop :=
  (∀ (s : State) (a : Addr), s.eaB false a = (a, s) ∧ s.eaB true a = s.readPtr a) ∧
  (∀ (v : Cond) (r : Reg) (i : Bool) (a : Addr),
    ∀ ins ∈ [Instr.bcta v, .bcfa v, .brna r, .bira r, .bdra r, .bsta v, .bsfa v, .bsna r],
      (encode (ins i a)).tail = [BitVec.ofBool i ++ a.extractLsb' 8 7, a.extractLsb' 0 8]) ∧
  ∀ (v : Cond) (r : Reg) (i : Bool) (a : Addr) (s : State),
    let goes := fun ins : Instr => ∃ t, exec ins s = .next t ∧ t.pc = (s.eaB i a).1
    (s.holds v = true → goes (.bcta v i a) ∧ goes (.bsta v i a)) ∧
    (s.holds v = false → goes (.bcfa v i a) ∧ goes (.bsfa v i a)) ∧
    (s.x r ≠ 0 → goes (.brna r i a) ∧ goes (.bsna r i a)) ∧
    (s.x r ≠ 255 → goes (.bira r i a)) ∧
    (s.x r ≠ 1 → goes (.bdra r i a))

/-- A pointer (20_memory.md R70, R63, R81): the byte at its address is read first, then the byte at the next address of the
page, each once and nothing else; the first is the high byte, its bit 7 ignored. Of stored memory that changes nothing; of a
device the two reads are events in that order and take two bytes of the environment's script in that order; of absent
addresses they take the bytes alone. An address that is not indirect is taken as it is, with no access. The wrap at the page's end is the spec's decision D12 (log entry 7), what answers is
D20 (log entry 5), the order D23 (log entry 21). -/
def Obligations.PointerIsHighByteFirst : Prop :=
  ∀ (s : State) (p : Addr),
    let q := addressAt (page p).toNat ((off p).toNat + 1)
    let hi := s.memRead p
    let lo := hi.2.memRead q
    let joined := fun (h l : Byte) => h.toNat % 128 * 256 + l.toNat
    s.resolve false p = (p, s) ∧ s.resolve true p = s.readPtr p ∧
    (s.readPtr p).1.toNat = joined hi.1 lo.1 ∧ (s.readPtr p).2 = lo.2 ∧
    (s.stored p → s.stored q → ∃ a, s.readPtr p = (a, s) ∧ a.toNat = joined (s.peek p) (s.peek q)) ∧
    ∀ h l rest, s.env.memReads = h :: l :: rest →
      (s.kindAt p = .device → s.kindAt q = .device →
        ∃ a, a.toNat = joined h l ∧
          s.readPtr p =
            (a, { s with
                  env := { s.env with memReads := rest }
                  trace := s.trace ++ [.deviceRead p, .deviceRead q] })) ∧
      (s.kindAt p = .absent → s.kindAt q = .absent →
        ∃ a, a.toNat = joined h l ∧ s.readPtr p = (a, { s with env := { s.env with memReads := rest } }))

/-- What an access to one byte does by what is connected (20_memory.md R76, R79). A read: RAM and ROM answer their byte
and nothing changes, a device records the read and draws the byte, an absent address draws it. A write: RAM takes it and a
later read answers it, a device is told, ROM and absent addresses drop it; every other address reads as before. Decision
D20 (log entry 5). -/
def Obligations.MemoryAccessByKind : Prop :=
  ∀ (s : State) (a : Addr) (v : Byte),
    (s.kindAt a = .ram ∨ s.kindAt a = .rom → s.memRead a = (s.peek a, s)) ∧
    (s.kindAt a = .device →
      s.memRead a = State.drawMemRead { s with trace := s.trace ++ [.deviceRead a] }) ∧
    (s.kindAt a = .absent → s.memRead a = s.drawMemRead) ∧
    (s.memWrite a v).view = s.stores s a v s.view ∧
    (s.kindAt a = .ram → (s.memWrite a v).memRead a = (v, s.memWrite a v))

/-- Each draw from the environment answers the head of its own script and takes it off, and past the script's end answers
a free value and advances the counter alone, but for the reset and request lines, which answer that nothing comes
(60_exceptions.md R272). The form of the oracle is the model's: log entries 8 to 10. -/
def Obligations.ScriptsAnswerInOrder : Prop :=
  ∀ s : State,
    (∀ b bs, s.env.senses = b :: bs → s.drawSense = (b, { s with env := { s.env with senses := bs } })) ∧
    (∀ b bs, s.env.ioReads = b :: bs → s.drawIoRead = (b, { s with env := { s.env with ioReads := bs } })) ∧
    (∀ b bs, s.env.memReads = b :: bs → s.drawMemRead = (b, { s with env := { s.env with memReads := bs } })) ∧
    (∀ b bs, s.env.intVectors = b :: bs →
      s.drawIntVector = (b, { s with env := { s.env with intVectors := bs } })) ∧
    (s.env.senses = [] → s.drawSense.2 = { s with draws := s.draws + 1 }) ∧
    (s.env.ioReads = [] → s.drawIoRead.2 = { s with draws := s.draws + 1 }) ∧
    (s.env.memReads = [] → s.drawMemRead.2 = { s with draws := s.draws + 1 }) ∧
    (s.env.intVectors = [] → s.drawIntVector.2 = { s with draws := s.draws + 1 }) ∧
    (s.env.resets = [] → s.drawReset = (none, s)) ∧
    (s.env.intReqs = [] → s.drawIntReq = (false, s))

/-! ### Status word -/

/-- The bits of PSL's byte (10_state.md R40): CC 7 and 6, IDC 5, RS 4, WC 3, OVF 2, COM 1, C 0; every byte is one PSL. -/
def Obligations.PslByteLayout : Prop :=
  (∀ p : Psl,
    p.toByte.extractLsb' 6 2 = p.cc ∧ p.toByte.getLsbD 5 = p.idc ∧ p.toByte.getLsbD 4 = p.rs ∧
    p.toByte.getLsbD 3 = p.wc ∧ p.toByte.getLsbD 2 = p.ovf ∧ p.toByte.getLsbD 1 = p.com ∧
    p.toByte.getLsbD 0 = p.c ∧ Psl.ofByte p.toByte = p) ∧
  ∀ b : Byte, (Psl.ofByte b).toByte = b

/-- `SetCC` (00_scope.md R13): it writes CC alone, by the sign of the byte, and never %11. -/
def Obligations.SetCCBySign : Prop :=
  ∀ (v : Byte) (s : State),
    (s.setCC (ccOf v)).view = { s.view with psl := { s.psl with cc := signCode v } } ∧
    (1 ≤ v.toNat ∧ v.toNat ≤ 127 → (s.setCC (ccOf v)).psl.cc = 0b01) ∧
    (v.toNat = 0 → (s.setCC (ccOf v)).psl.cc = 0b00) ∧
    (128 ≤ v.toNat → (s.setCC (ccOf v)).psl.cc = 0b10) ∧
    (s.setCC (ccOf v)).psl.cc ≠ 0b11

/-- LPSL copies r0 into PSL, CPSL clears and PPSL sets the bits the mask selects, all eight bits being latches
(47_psw.md R242, R246, R248); with the rules' encodings and examples. -/
def Obligations.PslWritesAreUnmasked : Prop :=
  (∀ s : State, ∃ p : Psl, p.toByte = s.r0 ∧
    Runs .lpsl s { s.view with psl := p, pc := inpage s.pc 1, cycles := s.cycles + 2 }) ∧
  (∀ (m : Byte) (s : State), ∃ p : Psl, p.toByte = s.psl.toByte &&& ~~~m ∧
    Runs (.cpsl m) s { s.view with psl := p, pc := inpage s.pc 2, cycles := s.cycles + 3 }) ∧
  (∀ (m : Byte) (s : State), ∃ p : Psl, p.toByte = s.psl.toByte ||| m ∧
    Runs (.ppsl m) s { s.view with psl := p, pc := inpage s.pc 2, cycles := s.cycles + 3 }) ∧
  (∀ m : Byte, encode .lpsl = [0b10010011#8] ∧ encode (.cpsl m) = [0b01110101#8, m] ∧
    encode (.ppsl m) = [0b01110111#8, m]) ∧
  (∀ s t : State, exec (.ppsl 0x10) s = .next t → ∀ r, t.getReg r = t.cell true r)

/-- LPSU, CPSU and PPSU write F, II and SP alone (47_psw.md R240, R241, R245, R247). That each write of F, and only that,
is an output event is the model's reading of R36: log entry 14. -/
def Obligations.PsuWritesAreMasked : Prop :=
  (∀ s : State,
    Runs .lpsu s
      { s.view with
        psu := (s.psu &&& 0b10011000#8) ||| (s.r0 &&& 0b01100111#8), pc := inpage s.pc 1, cycles := s.cycles + 2
        trace := s.trace ++ [.flagPin (s.r0.getLsbD 6)] }) ∧
  (∀ (m : Byte) (s : State),
    Runs (.cpsu m) s
      { s.view with
        psu := s.psu &&& ~~~(m &&& 0b01100111#8), pc := inpage s.pc 2, cycles := s.cycles + 3
        trace := s.trace ++ (if m.getLsbD 6 then [.flagPin false] else []) }) ∧
  (∀ (m : Byte) (s : State),
    Runs (.ppsu m) s
      { s.view with
        psu := s.psu ||| (m &&& 0b01100111#8), pc := inpage s.pc 2, cycles := s.cycles + 3
        trace := s.trace ++ (if m.getLsbD 6 then [.flagPin true] else []) })

/-- SPSU and SPSL put PSU, with the SENSE level, and the old PSL into r0 and set CC from the byte (47_psw.md R243,
R244). The polarity is the spec's decision D25 (log entry 24). -/
def Obligations.StatusIsStoredInR0 : Prop :=
  (∀ s : State,
    let pin := s.drawSense
    Runs .spsu s
      { s.view.accessed pin.2 with
        cell := setCell s.cell s.psl.rs .r0 (s.psuSeen pin.1)
        psl := { s.psl with cc := signCode (s.psuSeen pin.1) }
        pc := inpage s.pc 1, cycles := s.cycles + 2 }) ∧
  (∀ s : State,
    Runs .spsl s
      { s.view with
        cell := setCell s.cell s.psl.rs .r0 s.psl.toByte
        psl := { s.psl with cc := signCode s.psl.toByte }
        pc := inpage s.pc 1, cycles := s.cycles + 2 })

/-- TPSU, TPSL and TMI set CC to %00 if every bit the mask selects is one, else to %10, and change nothing else
(47_psw.md R249, R252, 48_rotate_misc.md R264). -/
def Obligations.TestsSetCCAlone : Prop :=
  let code := fun (v m : Byte) => if ∀ k : Fin 8, m.getLsbD k = true → v.getLsbD k = true then 0b00#2 else 0b10#2
  (∀ (m : Byte) (s : State),
    let pin := s.drawSense
    Runs (.tpsu m) s
      { s.view.accessed pin.2 with
        psl := { s.psl with cc := code (s.psuSeen pin.1) m }, pc := inpage s.pc 2, cycles := s.cycles + 3 }) ∧
  (∀ (m : Byte) (s : State),
    Runs (.tpsl m) s
      { s.view with
        psl := { s.psl with cc := code s.psl.toByte m }, pc := inpage s.pc 2, cycles := s.cycles + 3 }) ∧
  (∀ (r : Reg) (m : Byte) (s : State),
    Runs (.tmi r m) s
      { s.view with
        psl := { s.psl with cc := code (s.x r) m }, pc := inpage s.pc 2, cycles := s.cycles + 3 })

/-- LDPL puts a byte of memory into PSL, STPL puts PSL into memory and sets no flag, on the 2650-B (47_psw.md R250,
R251, 30_encoding.md R110: log entry 25). -/
def Obligations.PslInMemory : Prop :=
  ∀ (i : Bool) (a : Addr) (s : State), s.cfg.variant = .p2650B →
    let e := s.eaB i a
    let m := e.2.memRead e.1
    (∃ p : Psl, p.toByte = m.1 ∧
      Runs (.ldpl i a) s
        { s.view.accessed m.2 with psl := p, pc := inpage s.pc 3, cycles := s.cycles + cyclesOf 4 i }) ∧
    Runs (.stpl i a) s
      (s.stores e.2 e.1 s.psl.toByte { s.view with pc := inpage s.pc 3, cycles := s.cycles + cyclesOf 4 i })

/-! ### Load and store -/

/-- LODI (40_load_store.md R142), with its encoding and its examples. -/
def Obligations.LoadImmediate : Prop :=
  RunsI .lodi loadEffect ∧
  (∀ (r : Reg) (v : Byte), encode (.lodi r v) = [0b000001#6 ++ r.code, v]) ∧
  (∀ s : State,
    (∃ t, exec (.lodi .r2 0xF8) s = .next t ∧ t.x .r2 = 0xF8 ∧ t.psl.cc = 0b10) ∧
    (∃ t, exec (.lodi .r0 0x00) s = .next t ∧ t.x .r0 = 0x00 ∧ t.psl.cc = 0b00))

/-- LODZ, LODR and LODA load a register and set CC from the byte, STRZ loads a register from r0; r0 is no operand of LODZ
and STRZ (40_load_store.md R141, R143 to R145). With indexing the loaded register is r0; the in-page wrap and r0 as its
own index are the spec's decisions D13, D15 (log entries 6, 20). -/
def Obligations.LoadFromRegisterOrMemory : Prop :=
  (∀ (r : Reg) (s : State), r ≠ .r0 →
    RunsZ .lodz loadEffect r s ∧
    Runs (.strz r) s
      { s.view with
        cell := setCell s.cell s.psl.rs r s.r0
        psl := { s.psl with cc := signCode s.r0 }
        pc := inpage s.pc 1, cycles := s.cycles + 2 }) ∧
  RunsR .lodr loadEffect ∧
  RunsA .loda loadEffect

/-- STRR writes the register at the relative effective address, one byte, and sets no flag (40_load_store.md R146); what
a write does by kind is R76 (log entry 5). -/
def Obligations.StoreRelative : Prop :=
  ∀ (r : Reg) (i : Bool) (d : Disp) (s : State),
    let e := s.eaR i d
    Runs (.strr r i d) s
      (s.stores e.2 e.1 (s.x r) { s.view with pc := inpage s.pc 2, cycles := s.cycles + cyclesOf 3 i })

/-- STRA writes the register, or r0 if indexed, at the absolute effective address; the index register keeps its new
value, no flag is set (40_load_store.md R147; decisions D13 to D15, log entries 6, 20). -/
def Obligations.StoreAbsolute : Prop :=
  ∀ (r : Reg) (i : Bool) (x : IndexCtl) (a : Offset) (s : State), s.indexFits r i x a →
    Runs (.stra r i x a) s
      (s.stores (s.baseOf r i x a).2 (s.eaOf r i x a) (s.stepped r x s.psl.rs (operandReg r x))
        { s.view with
          cell := s.stepped r x, pc := inpage s.pc 3, cycles := s.cycles + cyclesOf 4 i })

/-! ### Arithmetic, logic, compare -/

/-- ADDZ, ADDI, ADDR, ADDA (41_arithmetic.md R150, R154 to R158). The carry that enters is the one before the
instruction: the spec's decision D28 (log entry 29); the in-page wrap of indexing and r0 as its own index are D13, D15
(log entries 6, 20). -/
def Obligations.AddSumAndFlags : Prop :=
  (∀ (r : Reg) (s : State), RunsZ .addz addEffect r s) ∧
  RunsI .addi addEffect ∧ RunsR .addr addEffect ∧ RunsA .adda addEffect

/-- SUBZ, SUBI, SUBR, SUBA (41_arithmetic.md R151 to R154, R159 to R162). The sense of IDC and OVF are the spec's
decisions D16 and D21 (log entry 18), the indexing D13 and D15 (log entries 6, 20). -/
def Obligations.SubtractDifferenceAndFlags : Prop :=
  (∀ (r : Reg) (s : State), RunsZ .subz subEffect r s) ∧
  RunsI .subi subEffect ∧ RunsR .subr subEffect ∧ RunsA .suba subEffect

/-- The twelve logical instructions work bit by bit and change only CC in PSL; r0 is no operand of ANDZ (42_logical.md
R165 to R177; the in-page wrap of indexing is decision D13, log entry 6). -/
def Obligations.LogicBitByBit : Prop :=
  (∀ (r : Reg) (s : State),
    RunsZ .iorz (logicEffect fun a b => a || b) r s ∧ RunsZ .eorz (logicEffect fun a b => a != b) r s ∧
    (r ≠ .r0 → RunsZ .andz (logicEffect fun a b => a && b) r s)) ∧
  RunsI .iori (logicEffect fun a b => a || b) ∧ RunsR .iorr (logicEffect fun a b => a || b) ∧
  RunsA .iora (logicEffect fun a b => a || b) ∧
  RunsI .eori (logicEffect fun a b => a != b) ∧ RunsR .eorr (logicEffect fun a b => a != b) ∧
  RunsA .eora (logicEffect fun a b => a != b) ∧
  RunsI .andi (logicEffect fun a b => a && b) ∧ RunsR .andr (logicEffect fun a b => a && b) ∧
  RunsA .anda (logicEffect fun a b => a && b)

/-- COMZ, COMI, COMR, COMA set CC by the order of the register operand and the other one and change nothing else, but
the index register COMA steps (45_compare.md R220 to R224; decision D13, log entry 6). -/
def Obligations.CompareOrder : Prop :=
  (∀ (r : Reg) (s : State), RunsZ .comz compareEffect r s) ∧
  RunsI .comi compareEffect ∧ RunsR .comr compareEffect ∧ RunsA .coma compareEffect

/-- RRL and RRR: eight bits and only CC without carry; nine bits through C, with C, IDC and OVF, with it
(48_rotate_misc.md R260, R261). That OVF is cleared when bit 7 stays is the spec's decision D19 (log entry 17). -/
def Obligations.RotateThroughCarryOrNot : Prop :=
  ∀ (r : Reg) (s : State),
    let v := (s.x r).toNat
    let l8 : Byte := BitVec.ofNat 8 (v * 2 + v / 128)
    let r8 : Byte := BitVec.ofNat 8 (v / 2 + v % 2 * 128)
    let l9 : Byte := BitVec.ofNat 8 (v * 2 + s.psl.c.toNat)
    let r9 : Byte := BitVec.ofNat 8 (v / 2 + s.psl.c.toNat * 128)
    let ends := fun (y : Byte) (p : Psl) =>
      { s.view with
        cell := setCell s.cell s.psl.rs r y, psl := { p with cc := signCode y }
        pc := inpage s.pc 1, cycles := s.cycles + 2 }
    (s.psl.wc = false → Runs (.rrl r) s (ends l8 s.psl) ∧ Runs (.rrr r) s (ends r8 s.psl)) ∧
    (s.psl.wc = true →
      Runs (.rrl r) s
        (ends l9
          { s.psl with
            c := decide (128 ≤ v), idc := (s.x r).getLsbD 4
            ovf := (s.x r).getLsbD 6 != (s.x r).getLsbD 7 }) ∧
      Runs (.rrr r) s
        (ends r9
          { s.psl with
            c := decide (v % 2 = 1), idc := (s.x r).getLsbD 6
            ovf := s.psl.c != (s.x r).getLsbD 7 }))

/-- DAR adds $AA, $A0, $0A or $00 by C and IDC, with no carry from the low digit into the high one; CC becomes some value
that nothing constrains, the other flags stay (48_rotate_misc.md R265). The digits apart are the spec's decision D17 (log
entry 19); CC is a free value (log entry 11). -/
def Obligations.DecimalAdjustDigits : Prop :=
  ∀ (r : Reg) (s : State),
    let hi := ((s.x r).toNat / 16 + (if s.psl.c then 0 else 10)) % 16
    let lo := ((s.x r).toNat % 16 + (if s.psl.idc then 0 else 10)) % 16
    ∃ cc : BitVec 2,
      Runs (.dar r) s
        { s.view with
          cell := setCell s.cell s.psl.rs r (BitVec.ofNat 8 (hi * 16 + lo))
          psl := { s.psl with cc := cc }
          pc := inpage s.pc 1, cycles := s.cycles + 3, draws := s.draws + 1 }

/-- The manual's BCD procedures give decimal sums and differences (41_arithmetic.md R164): for two bytes of two decimal
digits each, add $66, add, DAR leaves the decimal sum modulo 100 with C its carry; subtract, DAR leaves the decimal
difference modulo 100 with C its missing borrow. With WC = 0. It rests on the spec's decisions D16 and D17 (log entries
18, 19). -/
def Obligations.BcdProcedures : Prop :=
  ∀ (r : Reg) (s : State) (x y : Nat), x < 100 → y < 100 → s.psl.wc = false →
    let bcd := fun n : Nat => BitVec.ofNat 8 (n / 10 % 10 * 16 + n % 10)
    s.x r = bcd x →
    (∃ t1 t2 t3, exec (.addi r 0x66) s = .next t1 ∧ exec (.addi r (bcd y)) t1 = .next t2 ∧
      exec (.dar r) t2 = .next t3 ∧ t3.x r = bcd (x + y) ∧ t3.psl.c = decide (100 ≤ x + y)) ∧
    (∃ t1 t2, exec (.subi r (bcd y)) s = .next t1 ∧ exec (.dar r) t1 = .next t2 ∧
      t2.x r = bcd (x + 100 - y) ∧ t2.psl.c = decide (y ≤ x))

/-! ### Branches, subroutines, stack -/

/-- The branches on a condition and on a register, taken and not taken (43_branch.md R180 to R186, 30_encoding.md R111);
`un` is no condition of BCFR and BCFA. That an untaken branch reads no pointer is decision D23 (log entry 21). -/
def Obligations.ConditionalBranches : Prop :=
  ∀ (v : Cond) (r : Reg) (i : Bool) (d : Disp) (a : Addr) (s : State),
    Runs (.bctr v i d) s (s.afterBranchR s s.cell (s.holds v) i d) ∧
    Runs (.bcta v i a) s (s.afterBranchB s s.cell (s.holds v) i a) ∧
    (v ≠ .un → Runs (.bcfr v i d) s (s.afterBranchR s s.cell (!s.holds v) i d)) ∧
    (v ≠ .un → Runs (.bcfa v i a) s (s.afterBranchB s s.cell (!s.holds v) i a)) ∧
    Runs (.brnr r i d) s (s.afterBranchR s s.cell (decide (s.x r ≠ 0)) i d) ∧
    Runs (.brna r i a) s (s.afterBranchB s s.cell (decide (s.x r ≠ 0)) i a)

/-- BIRR, BIRA, BDRR, BDRA change the register by one, modulo 256, set no flag, and branch if it is not zero then
(43_branch.md R187 to R190). That an untaken branch changes the register and reads no pointer is decision D29 (log entry
21). -/
def Obligations.CountingBranches : Prop :=
  ∀ (r : Reg) (i : Bool) (d : Disp) (a : Addr) (s : State),
    let up : Byte := BitVec.ofNat 8 ((s.x r).toNat + 1)
    let down : Byte := BitVec.ofNat 8 ((s.x r).toNat + 255)
    let cUp := setCell s.cell s.psl.rs r up
    let cDown := setCell s.cell s.psl.rs r down
    Runs (.birr r i d) s (s.afterBranchR s cUp (decide (up ≠ 0)) i d) ∧
    Runs (.bira r i a) s (s.afterBranchB s cUp (decide (up ≠ 0)) i a) ∧
    Runs (.bdrr r i d) s (s.afterBranchR s cDown (decide (down ≠ 0)) i d) ∧
    Runs (.bdra r i a) s (s.afterBranchB s cDown (decide (down ≠ 0)) i a)

/-- ZBRR and BXA go to their address from any page, ZBSR and BSXA push the address of the byte after them first
(43_branch.md R191, R192, 44_subroutine.md R207, R208); the in-page wrap of the index is decision D13 (log entry 6). -/
def Obligations.FarBranchesAndCalls : Prop :=
  (∀ (i : Bool) (d : Disp) (s : State),
    let e := s.eaZ0 i d
    Runs (.zbrr i d) s { s.view.accessed e.2 with pc := e.1, cycles := s.cycles + cyclesOf 3 i }) ∧
  (∀ (i : Bool) (a : Addr) (s : State), s.branchFits i a →
    Runs (.bxa i a) s
      { s.view.accessed (s.eaB i a).2 with pc := s.eaIndexed i a, cycles := s.cycles + cyclesOf 3 i }) ∧
  (∀ (i : Bool) (d : Disp) (s : State),
    let e := s.eaZ0 i d
    Runs (.zbsr i d) s
      (s.pushed { s.view.accessed e.2 with pc := e.1, cycles := s.cycles + cyclesOf 3 i } (inpage s.pc 2))) ∧
  (∀ (i : Bool) (a : Addr) (s : State), s.branchFits i a →
    Runs (.bsxa i a) s
      (s.pushed
        { s.view.accessed (s.eaB i a).2 with pc := s.eaIndexed i a, cycles := s.cycles + cyclesOf 3 i }
        (inpage s.pc 3)))

/-- The subroutine branches on a condition and on a register (44_subroutine.md R200 to R206): as the branches of the same
name, with the address of the byte after the instruction pushed if taken; `un` is no condition of BSFR and BSFA. Decision
D23 (log entry 21). -/
def Obligations.ConditionalSubroutineBranches : Prop :=
  ∀ (v : Cond) (r : Reg) (i : Bool) (d : Disp) (a : Addr) (s : State),
    Runs (.bstr v i d) s (s.afterCallR (s.holds v) i d) ∧
    Runs (.bsta v i a) s (s.afterCallB (s.holds v) i a) ∧
    (v ≠ .un → Runs (.bsfr v i d) s (s.afterCallR (!s.holds v) i d)) ∧
    (v ≠ .un → Runs (.bsfa v i a) s (s.afterCallB (!s.holds v) i a)) ∧
    Runs (.bsnr r i d) s (s.afterCallR (decide (s.x r ≠ 0)) i d) ∧
    Runs (.bsna r i a) s (s.afterCallB (decide (s.x r ≠ 0)) i a)

/-- RETC and RETE pop `pc` if the condition is met, RETE clearing II too; else they go on (44_subroutine.md R209,
R210). -/
def Obligations.Returns : Prop :=
  ∀ (v : Cond) (s : State),
    let back := s.popped { s.view with cycles := s.cycles + 3 }
    let on := { s.view with pc := inpage s.pc 1, cycles := s.cycles + 3 }
    Runs (.retc v) s (if s.holds v then back else on) ∧
    Runs (.rete v) s (if s.holds v then { back with psu := back.psu &&& 0b11011111#8 } else on)

/-- Push (10_state.md R48): SP up by one, modulo 8, then the entry it points to written; a subroutine branch that is taken
pushes the address of the byte following it, one that is not taken leaves SP and the stack; an accepted interrupt pushes
`pc`. That this `pc` is the address of the byte following the instruction before, a HALT included, and that the ZBSR of the
acceptance takes no bytes is the model's from the spec's decisions D26 and D30: log entry 12. -/
def Obligations.PushIncrementsThenStores : Prop :=
  (∀ (s : State) (a : Addr), (s.push a).view = s.pushed s.view a) ∧
  (∀ (s : State) (a : Addr), (s.push a).sp.toNat = (s.sp.toNat + 1) % 8) ∧
  (∀ (i : Instr) (s t : State), i.calls = true → exec i s = .next t →
    if s.takesCall i then
      t.sp = s.sp + 1 ∧ t.entry t.sp = s.nextOf i ∧ ∀ k, k ≠ t.sp → t.entry k = s.entry k
    else t.sp = s.sp ∧ ∀ k, t.entry k = s.entry k) ∧
  (∀ s : State, s.takeInterrupt.sp = s.sp + 1 ∧ s.takeInterrupt.entry (s.sp + 1) = s.pc ∧
    ∀ k, k ≠ s.sp + 1 → s.takeInterrupt.entry k = s.entry k)

/-- Pop (10_state.md R49): the entry SP points to goes to `pc`, SP down by one, modulo 8, the entry not erased; a return
that is taken does exactly that to the stack. -/
def Obligations.PopReadsThenDecrements : Prop :=
  (∀ s : State, s.pop.1 = s.entry s.sp ∧ s.pop.2.sp.toNat = (s.sp.toNat + 7) % 8 ∧
    ∀ k, s.pop.2.entry k = s.entry k) ∧
  (∀ (v : Cond) (s t : State), s.holds v = true → exec (.retc v) s = .next t ∨ exec (.rete v) s = .next t →
    t.pc = s.entry s.sp ∧ t.sp.toNat = (s.sp.toNat + 7) % 8 ∧ ∀ k, t.entry k = s.entry k)

/-- The stack is last in, first out, eight deep (10_state.md R47, R50): up to eight addresses pushed come back in reverse
order, whatever SP was; of more, the last eight do. The overwriting is decision D7 (log entry 27). -/
def Obligations.StackIsLifoEightDeep : Prop :=
  ∀ (s : State) (as : List Addr), State.popAll (min as.length 8) (s.pushAll as) = as.reverse.take 8

/-! ### Input and output, NOP, HALT -/

/-- REDC, REDD and REDE put the byte the environment answers into the register and set CC from it; WRTC, WRTD and WRTE
output the register and change nothing else; one transfer each (46_io.md R230 to R236). The recorded read is log entry
14. -/
def Obligations.PortTransfers : Prop :=
  ∀ (r : Reg) (port : Byte) (s : State),
    let reads := fun (space : IoSpace) (len : Offset) (cyc : Nat) =>
      let d := State.drawIoRead { s with trace := s.trace ++ [.ioRead space] }
      { s.view.accessed d.2 with
        cell := setCell s.cell s.psl.rs r d.1, psl := { s.psl with cc := signCode d.1 }
        pc := inpage s.pc len, cycles := s.cycles + cyc }
    let writes := fun (space : IoSpace) (len : Offset) (cyc : Nat) =>
      { s.view with
        trace := s.trace ++ [.ioWrite space (s.x r)], pc := inpage s.pc len, cycles := s.cycles + cyc }
    Runs (.redc r) s (reads .ctrl 1 2) ∧ Runs (.redd r) s (reads .data 1 2) ∧
    Runs (.rede r port) s (reads (.ext port) 2 3) ∧
    Runs (.wrtc r) s (writes .ctrl 1 2) ∧ Runs (.wrtd r) s (writes .data 1 2) ∧
    Runs (.wrte r port) s (writes (.ext port) 2 3)

/-- NOP (48_rotate_misc.md R262), with its encoding and its example. -/
def Obligations.NopMovesOn : Prop :=
  encode .nop = [0b11000000#8] ∧
  (∀ s : State, Runs .nop s { s.view with pc := inpage s.pc 1, cycles := s.cycles + 2 }) ∧
  (∀ s : State, s.pc = 0x0100 → ∃ t, exec .nop s = .next t ∧ t.pc = 0x0101)

/-- HALT: `pc` at the byte after it, the WAIT state entered, the line told if it changes (48_rotate_misc.md R263; the
event is log entry 14). -/
def Obligations.HaltEntersWait : Prop :=
  ∀ s : State,
    Runs .halt s
      { s.view with
        pc := inpage s.pc 1, waiting := true, cycles := s.cycles + 2
        trace := s.trace ++ (if s.waiting then [] else [.waitLine true]) }

end
end

