-- ==== Sys2Proof/Laws/Bits.lean ====
section
/-! SUPPORT. The status word as bytes and as fields. -/

namespace Sys2Proof.Machine

/-- A PSL is its byte. -/
@[simp] theorem Psl.ofByte_toByte (p : Psl) : Psl.ofByte p.toByte = p := by
  obtain ⟨cc, idc, rs, wc, ovf, com, c⟩ := p
  revert cc
  revert idc rs wc ovf com c
  decide

/-- Every byte is the byte of its PSL. -/
@[simp] theorem Psl.toByte_ofByte (b : Byte) : (Psl.ofByte b).toByte = b := by
  revert b
  decide

/-- The bits of a PSL's byte, from bit 0 (R40). -/
theorem Psl.toByte_bits (p : Psl) :
    p.toByte.getLsbD 0 = p.c ∧ p.toByte.getLsbD 1 = p.com ∧ p.toByte.getLsbD 2 = p.ovf ∧
      p.toByte.getLsbD 3 = p.wc ∧ p.toByte.getLsbD 4 = p.rs ∧ p.toByte.getLsbD 5 = p.idc ∧
      p.toByte.getLsbD 6 = p.cc.getLsbD 0 ∧ p.toByte.getLsbD 7 = p.cc.getLsbD 1 := by
  obtain ⟨cc, idc, rs, wc, ovf, com, c⟩ := p
  revert cc
  revert idc rs wc ovf com c
  decide

/-- Clearing fields is clearing bits of the byte (R246). -/
theorem Psl.toByte_clear (p m : Psl) : (p.clear m).toByte = p.toByte &&& ~~~m.toByte := by
  obtain ⟨p0, p1, p2, p3, p4, p5, p6, p7⟩ := p.toByte_bits
  obtain ⟨m0, m1, m2, m3, m4, m5, m6, m7⟩ := m.toByte_bits
  obtain ⟨c0, c1, c2, c3, c4, c5, c6, c7⟩ := (p.clear m).toByte_bits
  apply BitVec.eq_of_getLsbD_eq
  intro i hi
  rw [BitVec.getLsbD_and, BitVec.getLsbD_not]
  interval_cases i <;> simp only [*] <;> simp [Psl.clear]

/-- Setting fields is setting bits of the byte (R248). -/
theorem Psl.toByte_preset (p m : Psl) : (p.preset m).toByte = p.toByte ||| m.toByte := by
  obtain ⟨p0, p1, p2, p3, p4, p5, p6, p7⟩ := p.toByte_bits
  obtain ⟨m0, m1, m2, m3, m4, m5, m6, m7⟩ := m.toByte_bits
  obtain ⟨c0, c1, c2, c3, c4, c5, c6, c7⟩ := (p.preset m).toByte_bits
  apply BitVec.eq_of_getLsbD_eq
  intro i hi
  rw [BitVec.getLsbD_or]
  interval_cases i <;> simp only [*] <;> simp [Psl.preset]

/-- SP of a PSU whose SP was replaced. -/
@[simp] theorem putSp_sp (psu : Byte) (sp : BitVec 3) : (putSp psu sp).extractLsb' 0 3 = sp := by
  revert psu sp
  decide

/-- F and II of a PSU whose SP was replaced. -/
@[simp] theorem putSp_flag (psu : Byte) (sp : BitVec 3) : (putSp psu sp).getLsbD 6 = psu.getLsbD 6 := by
  revert psu sp
  decide

@[simp] theorem putSp_ii (psu : Byte) (sp : BitVec 3) : (putSp psu sp).getLsbD 5 = psu.getLsbD 5 := by
  revert psu sp
  decide

/-- F, II and SP of a PSU whose II was replaced. -/
@[simp] theorem putBit5_flag (psu : Byte) (b : Bool) : (putBit psu 5 b).getLsbD 6 = psu.getLsbD 6 := by
  revert psu b
  decide

@[simp] theorem putBit5_ii (psu : Byte) (b : Bool) : (putBit psu 5 b).getLsbD 5 = b := by
  revert psu b
  decide

@[simp] theorem putBit5_sp (psu : Byte) (b : Bool) : (putBit psu 5 b).extractLsb' 0 3 = psu.extractLsb' 0 3 := by
  revert psu b
  decide

/-- Each bit of a PSU written through a selection: the writable bits selected come from `v` (R240). -/
theorem putPsu_getLsbD (psu sel v : Byte) (k : Nat) :
    (putPsu psu sel v).getLsbD k =
      if sel.getLsbD k && psuMask.getLsbD k then v.getLsbD k else psu.getLsbD k := by
  by_cases hk : k < 8
  · simp only [putPsu, BitVec.getLsbD_or, BitVec.getLsbD_and, BitVec.getLsbD_not, hk, decide_true, Bool.true_and]
    cases sel.getLsbD k <;> cases psuMask.getLsbD k <;> simp
  · simp [BitVec.getLsbD_of_ge _ _ (Nat.le_of_not_lt hk)]

/-- The bits 7, 4 and 3 of PSU, which nothing writes (R38, R240). -/
theorem putPsu_reserved (psu sel v : Byte) : putPsu psu sel v &&& 0b10011000#8 = psu &&& 0b10011000#8 := by
  apply BitVec.eq_of_getLsbD_eq
  intro i hi
  rw [BitVec.getLsbD_and, BitVec.getLsbD_and, putPsu_getLsbD]
  interval_cases i <;> simp [psuMask]

theorem putSp_reserved (psu : Byte) (sp : BitVec 3) : putSp psu sp &&& 0b10011000#8 = psu &&& 0b10011000#8 := by
  revert psu sp
  decide

theorem putBit5_reserved (psu : Byte) (b : Bool) : putBit psu 5 b &&& 0b10011000#8 = psu &&& 0b10011000#8 := by
  revert psu b
  decide

/-- `SetCC` never gives %11 (R13). -/
theorem ccOf_ne_three (v : Byte) : ccOf v ≠ 0b11 := by
  unfold ccOf
  split_ifs <;> decide

theorem compareCC_ne_three (com : Bool) (a b : Byte) : compareCC com a b ≠ 0b11 := by
  unfold compareCC
  dsimp only
  split_ifs <;> decide

theorem testCC_ne_three (v m : Byte) : testCC v m ≠ 0b11 := by
  unfold testCC
  split_ifs <;> decide

end Sys2Proof.Machine
end

