-- ==== Sys2Proof/Laws/Decode.lean ====
section
/-! SUPPORT. Each field of an encoding read back. -/

namespace Sys2Proof

@[simp] theorem Reg.ofCode_code (r : Reg) : Reg.ofCode r.code = r := by cases r <;> rfl

@[simp] theorem Cond.ofCode_code (v : Cond) : Cond.ofCode v.code = v := by cases v <;> rfl

@[simp] theorem IndexCtl.ofCode_code (x : IndexCtl) : IndexCtl.ofCode x.code = x := by cases x <;> rfl

@[simp] theorem Reg.code_ofCode (c : BitVec 2) : (Reg.ofCode c).code = c := by
  revert c
  decide

@[simp] theorem Cond.code_ofCode (c : BitVec 2) : (Cond.ofCode c).code = c := by
  revert c
  decide

@[simp] theorem IndexCtl.code_ofCode (c : BitVec 2) : (IndexCtl.ofCode c).code = c := by
  revert c
  decide

@[simp] theorem indBit_relByte (i : Bool) (d : Disp) : indBit (relByte i d) = i := by
  revert i d
  decide

@[simp] theorem disp7_relByte (i : Bool) (d : Disp) : disp7 (relByte i d) = d := by
  revert i d
  decide

@[simp] theorem relByte_fields (b : Byte) : relByte (indBit b) (disp7 b) = b := by
  revert b
  decide

/-! The halves of a joined word, and a word from its halves. -/

theorem append_halves {n m : Nat} (a : BitVec (n + m)) : a.extractLsb' m n ++ a.extractLsb' 0 m = a := by
  apply BitVec.eq_of_getLsbD_eq
  intro k hk
  rw [BitVec.getLsbD_append, BitVec.getLsbD_extractLsb', BitVec.getLsbD_extractLsb']
  split
  · next h => simp [h]
  · next h =>
    have hm : m + (k - m) = k := by omega
    have hn : k - m < n := by omega
    simp [hm, hn]

theorem high_append {n m : Nat} (x : BitVec n) (y : BitVec m) : (x ++ y).extractLsb' m n = x := by
  apply BitVec.eq_of_getLsbD_eq
  intro k hk
  rw [BitVec.getLsbD_extractLsb', BitVec.getLsbD_append]
  have h1 : ¬ m + k < m := by omega
  have h2 : m + k - m = k := by omega
  simp [h2, hk]

theorem low_append {n m : Nat} (x : BitVec n) (y : BitVec m) : (x ++ y).extractLsb' 0 m = y := by
  apply BitVec.eq_of_getLsbD_eq
  intro k hk
  rw [BitVec.getLsbD_extractLsb', BitVec.getLsbD_append]
  simp [hk]

@[simp] theorem indBit_idxByte (i : Bool) (x : IndexCtl) (a : Offset) : indBit (idxByte i x a) = i := by
  unfold idxByte
  generalize x.code = c, a.extractLsb' 8 5 = h
  revert i c h
  decide

theorem idxByte_index (i : Bool) (x : IndexCtl) (a : Offset) : (idxByte i x a).extractLsb' 5 2 = x.code := by
  unfold idxByte
  generalize x.code = c, a.extractLsb' 8 5 = h
  revert i c h
  decide

theorem idxByte_address (i : Bool) (x : IndexCtl) (a : Offset) :
    (idxByte i x a).extractLsb' 0 5 = a.extractLsb' 8 5 := by
  unfold idxByte
  generalize x.code = c, a.extractLsb' 8 5 = h
  revert i c h
  decide

@[simp] theorem indexCtl_idxByte (i : Bool) (x : IndexCtl) (a : Offset) : indexCtl (idxByte i x a) = x := by
  rw [indexCtl, idxByte_index, IndexCtl.ofCode_code]

@[simp] theorem addr13_idxByte (i : Bool) (x : IndexCtl) (a : Offset) : addr13 (idxByte i x a) (lowByte13 a) = a := by
  rw [addr13, idxByte_address]
  exact append_halves (n := 5) (m := 8) a

@[simp] theorem indBit_absByte (i : Bool) (a : Addr) : indBit (absByte i a) = i := by
  unfold absByte
  generalize a.extractLsb' 8 7 = h
  revert i h
  decide

theorem absByte_address (i : Bool) (a : Addr) : (absByte i a).extractLsb' 0 7 = a.extractLsb' 8 7 :=
  low_append (n := 1) (m := 7) _ _

@[simp] theorem addr15_absByte (i : Bool) (a : Addr) : addr15 (absByte i a) (lowByte15 a) = a := by
  rw [addr15, absByte_address]
  exact append_halves (n := 7) (m := 8) a

@[simp] theorem absByte_fields (b1 b2 : Byte) : absByte (indBit b1) (addr15 b1 b2) = b1 := by
  have h : (addr15 b1 b2).extractLsb' 8 7 = b1.extractLsb' 0 7 := high_append (n := 7) (m := 8) _ _
  rw [absByte, h]
  exact relByte_fields b1

@[simp] theorem lowByte15_addr15 (b1 b2 : Byte) : lowByte15 (addr15 b1 b2) = b2 :=
  low_append (n := 7) (m := 8) _ _

@[simp] theorem idxByte_fields (b1 b2 : Byte) : idxByte (indBit b1) (indexCtl b1) (addr13 b1 b2) = b1 := by
  have h : (addr13 b1 b2).extractLsb' 8 5 = b1.extractLsb' 0 5 := high_append (n := 5) (m := 8) _ _
  rw [idxByte, h]
  clear h
  revert b1
  decide

@[simp] theorem lowByte13_addr13 (b1 b2 : Byte) : lowByte13 (addr13 b1 b2) = b2 :=
  low_append (n := 5) (m := 8) _ _

/-- The low two bits and the high six bits of a four-wide group's first byte. -/
@[simp] theorem opByte_low (op : BitVec 6) (rr : BitVec 2) : (opByte op rr).extractLsb' 0 2 = rr := by
  revert op rr
  decide

@[simp] theorem opByte_high (op : BitVec 6) (rr : BitVec 2) : (opByte op rr).extractLsb' 2 6 = op := by
  revert op rr
  decide

end Sys2Proof
end

