-- ==== Sys2Proof/Laws/State.lean ====
section
/-! SUPPORT. One lemma for each field and each update: what the update leaves as it was, and what it writes. -/

namespace Sys2Proof.Machine

/-! ### Status word -/

@[simp] theorem State.setPsl_r0 (s : State) (v : Psl) : (s.setPsl v).r0 = s.r0 := rfl
@[simp] theorem State.setPsl_bank0 (s : State) (v : Psl) : (s.setPsl v).bank0 = s.bank0 := rfl
@[simp] theorem State.setPsl_bank1 (s : State) (v : Psl) : (s.setPsl v).bank1 = s.bank1 := rfl
@[simp] theorem State.setPsl_pc (s : State) (v : Psl) : (s.setPsl v).pc = s.pc := rfl
@[simp] theorem State.setPsl_psu (s : State) (v : Psl) : (s.setPsl v).psu = s.psu := rfl
@[simp] theorem State.setPsl_ras (s : State) (v : Psl) : (s.setPsl v).ras = s.ras := rfl
@[simp] theorem State.setPsl_waiting (s : State) (v : Psl) : (s.setPsl v).waiting = s.waiting := rfl
@[simp] theorem State.setPsl_mem (s : State) (v : Psl) : (s.setPsl v).mem = s.mem := rfl
@[simp] theorem State.setPsl_env (s : State) (v : Psl) : (s.setPsl v).env = s.env := rfl
@[simp] theorem State.setPsl_trace (s : State) (v : Psl) : (s.setPsl v).trace = s.trace := rfl
@[simp] theorem State.setPsl_cycles (s : State) (v : Psl) : (s.setPsl v).cycles = s.cycles := rfl
@[simp] theorem State.setPsl_draws (s : State) (v : Psl) : (s.setPsl v).draws = s.draws := rfl
@[simp] theorem State.setPsl_cfg (s : State) (v : Psl) : (s.setPsl v).cfg = s.cfg := rfl

@[simp] theorem State.setPsl_psl (s : State) (v : Psl) : (s.setPsl v).psl = v := rfl

@[simp] theorem State.setPsu_r0 (s : State) (v : Byte) : (s.setPsu v).r0 = s.r0 := rfl
@[simp] theorem State.setPsu_bank0 (s : State) (v : Byte) : (s.setPsu v).bank0 = s.bank0 := rfl
@[simp] theorem State.setPsu_bank1 (s : State) (v : Byte) : (s.setPsu v).bank1 = s.bank1 := rfl
@[simp] theorem State.setPsu_pc (s : State) (v : Byte) : (s.setPsu v).pc = s.pc := rfl
@[simp] theorem State.setPsu_psl (s : State) (v : Byte) : (s.setPsu v).psl = s.psl := rfl
@[simp] theorem State.setPsu_ras (s : State) (v : Byte) : (s.setPsu v).ras = s.ras := rfl
@[simp] theorem State.setPsu_waiting (s : State) (v : Byte) : (s.setPsu v).waiting = s.waiting := rfl
@[simp] theorem State.setPsu_mem (s : State) (v : Byte) : (s.setPsu v).mem = s.mem := rfl
@[simp] theorem State.setPsu_env (s : State) (v : Byte) : (s.setPsu v).env = s.env := rfl
@[simp] theorem State.setPsu_trace (s : State) (v : Byte) : (s.setPsu v).trace = s.trace := rfl
@[simp] theorem State.setPsu_cycles (s : State) (v : Byte) : (s.setPsu v).cycles = s.cycles := rfl
@[simp] theorem State.setPsu_draws (s : State) (v : Byte) : (s.setPsu v).draws = s.draws := rfl
@[simp] theorem State.setPsu_cfg (s : State) (v : Byte) : (s.setPsu v).cfg = s.cfg := rfl

@[simp] theorem State.setPsu_psu (s : State) (v : Byte) : (s.setPsu v).psu = v := rfl

@[simp] theorem State.setCC_r0 (s : State) (cc : BitVec 2) : (s.setCC cc).r0 = s.r0 := rfl
@[simp] theorem State.setCC_bank0 (s : State) (cc : BitVec 2) : (s.setCC cc).bank0 = s.bank0 := rfl
@[simp] theorem State.setCC_bank1 (s : State) (cc : BitVec 2) : (s.setCC cc).bank1 = s.bank1 := rfl
@[simp] theorem State.setCC_pc (s : State) (cc : BitVec 2) : (s.setCC cc).pc = s.pc := rfl
@[simp] theorem State.setCC_psu (s : State) (cc : BitVec 2) : (s.setCC cc).psu = s.psu := rfl
@[simp] theorem State.setCC_ras (s : State) (cc : BitVec 2) : (s.setCC cc).ras = s.ras := rfl
@[simp] theorem State.setCC_waiting (s : State) (cc : BitVec 2) : (s.setCC cc).waiting = s.waiting := rfl
@[simp] theorem State.setCC_mem (s : State) (cc : BitVec 2) : (s.setCC cc).mem = s.mem := rfl
@[simp] theorem State.setCC_env (s : State) (cc : BitVec 2) : (s.setCC cc).env = s.env := rfl
@[simp] theorem State.setCC_trace (s : State) (cc : BitVec 2) : (s.setCC cc).trace = s.trace := rfl
@[simp] theorem State.setCC_cycles (s : State) (cc : BitVec 2) : (s.setCC cc).cycles = s.cycles := rfl
@[simp] theorem State.setCC_draws (s : State) (cc : BitVec 2) : (s.setCC cc).draws = s.draws := rfl
@[simp] theorem State.setCC_cfg (s : State) (cc : BitVec 2) : (s.setCC cc).cfg = s.cfg := rfl

@[simp] theorem State.setCC_psl (s : State) (cc : BitVec 2) : (s.setCC cc).psl = { s.psl with cc := cc } := rfl

@[simp] theorem State.setArith_r0 (s : State) (x : Alu) : (s.setArith x).r0 = s.r0 := rfl
@[simp] theorem State.setArith_bank0 (s : State) (x : Alu) : (s.setArith x).bank0 = s.bank0 := rfl
@[simp] theorem State.setArith_bank1 (s : State) (x : Alu) : (s.setArith x).bank1 = s.bank1 := rfl
@[simp] theorem State.setArith_pc (s : State) (x : Alu) : (s.setArith x).pc = s.pc := rfl
@[simp] theorem State.setArith_psu (s : State) (x : Alu) : (s.setArith x).psu = s.psu := rfl
@[simp] theorem State.setArith_ras (s : State) (x : Alu) : (s.setArith x).ras = s.ras := rfl
@[simp] theorem State.setArith_waiting (s : State) (x : Alu) : (s.setArith x).waiting = s.waiting := rfl
@[simp] theorem State.setArith_mem (s : State) (x : Alu) : (s.setArith x).mem = s.mem := rfl
@[simp] theorem State.setArith_env (s : State) (x : Alu) : (s.setArith x).env = s.env := rfl
@[simp] theorem State.setArith_trace (s : State) (x : Alu) : (s.setArith x).trace = s.trace := rfl
@[simp] theorem State.setArith_cycles (s : State) (x : Alu) : (s.setArith x).cycles = s.cycles := rfl
@[simp] theorem State.setArith_draws (s : State) (x : Alu) : (s.setArith x).draws = s.draws := rfl
@[simp] theorem State.setArith_cfg (s : State) (x : Alu) : (s.setArith x).cfg = s.cfg := rfl

@[simp] theorem State.setArith_psl (s : State) (x : Alu) :
    (s.setArith x).psl = { s.psl with c := x.c, idc := x.idc, ovf := x.ovf } := rfl

@[simp] theorem State.setSp_r0 (s : State) (sp : BitVec 3) : (s.setSp sp).r0 = s.r0 := rfl
@[simp] theorem State.setSp_bank0 (s : State) (sp : BitVec 3) : (s.setSp sp).bank0 = s.bank0 := rfl
@[simp] theorem State.setSp_bank1 (s : State) (sp : BitVec 3) : (s.setSp sp).bank1 = s.bank1 := rfl
@[simp] theorem State.setSp_pc (s : State) (sp : BitVec 3) : (s.setSp sp).pc = s.pc := rfl
@[simp] theorem State.setSp_psl (s : State) (sp : BitVec 3) : (s.setSp sp).psl = s.psl := rfl
@[simp] theorem State.setSp_ras (s : State) (sp : BitVec 3) : (s.setSp sp).ras = s.ras := rfl
@[simp] theorem State.setSp_waiting (s : State) (sp : BitVec 3) : (s.setSp sp).waiting = s.waiting := rfl
@[simp] theorem State.setSp_mem (s : State) (sp : BitVec 3) : (s.setSp sp).mem = s.mem := rfl
@[simp] theorem State.setSp_env (s : State) (sp : BitVec 3) : (s.setSp sp).env = s.env := rfl
@[simp] theorem State.setSp_trace (s : State) (sp : BitVec 3) : (s.setSp sp).trace = s.trace := rfl
@[simp] theorem State.setSp_cycles (s : State) (sp : BitVec 3) : (s.setSp sp).cycles = s.cycles := rfl
@[simp] theorem State.setSp_draws (s : State) (sp : BitVec 3) : (s.setSp sp).draws = s.draws := rfl
@[simp] theorem State.setSp_cfg (s : State) (sp : BitVec 3) : (s.setSp sp).cfg = s.cfg := rfl

@[simp] theorem State.setSp_psu (s : State) (sp : BitVec 3) : (s.setSp sp).psu = putSp s.psu sp := rfl

@[simp] theorem State.setII_r0 (s : State) (b : Bool) : (s.setII b).r0 = s.r0 := rfl
@[simp] theorem State.setII_bank0 (s : State) (b : Bool) : (s.setII b).bank0 = s.bank0 := rfl
@[simp] theorem State.setII_bank1 (s : State) (b : Bool) : (s.setII b).bank1 = s.bank1 := rfl
@[simp] theorem State.setII_pc (s : State) (b : Bool) : (s.setII b).pc = s.pc := rfl
@[simp] theorem State.setII_psl (s : State) (b : Bool) : (s.setII b).psl = s.psl := rfl
@[simp] theorem State.setII_ras (s : State) (b : Bool) : (s.setII b).ras = s.ras := rfl
@[simp] theorem State.setII_waiting (s : State) (b : Bool) : (s.setII b).waiting = s.waiting := rfl
@[simp] theorem State.setII_mem (s : State) (b : Bool) : (s.setII b).mem = s.mem := rfl
@[simp] theorem State.setII_env (s : State) (b : Bool) : (s.setII b).env = s.env := rfl
@[simp] theorem State.setII_trace (s : State) (b : Bool) : (s.setII b).trace = s.trace := rfl
@[simp] theorem State.setII_cycles (s : State) (b : Bool) : (s.setII b).cycles = s.cycles := rfl
@[simp] theorem State.setII_draws (s : State) (b : Bool) : (s.setII b).draws = s.draws := rfl
@[simp] theorem State.setII_cfg (s : State) (b : Bool) : (s.setII b).cfg = s.cfg := rfl

@[simp] theorem State.setII_psu (s : State) (b : Bool) : (s.setII b).psu = putBit s.psu 5 b := rfl

/-! ### General registers -/

@[simp] theorem State.setBank_r0 (s : State) (b : Bank) : (s.setBank b).r0 = s.r0 := by
  unfold State.setBank
  split <;> rfl
@[simp] theorem State.setBank_pc (s : State) (b : Bank) : (s.setBank b).pc = s.pc := by
  unfold State.setBank
  split <;> rfl
@[simp] theorem State.setBank_psu (s : State) (b : Bank) : (s.setBank b).psu = s.psu := by
  unfold State.setBank
  split <;> rfl
@[simp] theorem State.setBank_psl (s : State) (b : Bank) : (s.setBank b).psl = s.psl := by
  unfold State.setBank
  split <;> rfl
@[simp] theorem State.setBank_ras (s : State) (b : Bank) : (s.setBank b).ras = s.ras := by
  unfold State.setBank
  split <;> rfl
@[simp] theorem State.setBank_waiting (s : State) (b : Bank) : (s.setBank b).waiting = s.waiting := by
  unfold State.setBank
  split <;> rfl
@[simp] theorem State.setBank_mem (s : State) (b : Bank) : (s.setBank b).mem = s.mem := by
  unfold State.setBank
  split <;> rfl
@[simp] theorem State.setBank_env (s : State) (b : Bank) : (s.setBank b).env = s.env := by
  unfold State.setBank
  split <;> rfl
@[simp] theorem State.setBank_trace (s : State) (b : Bank) : (s.setBank b).trace = s.trace := by
  unfold State.setBank
  split <;> rfl
@[simp] theorem State.setBank_cycles (s : State) (b : Bank) : (s.setBank b).cycles = s.cycles := by
  unfold State.setBank
  split <;> rfl
@[simp] theorem State.setBank_draws (s : State) (b : Bank) : (s.setBank b).draws = s.draws := by
  unfold State.setBank
  split <;> rfl
@[simp] theorem State.setBank_cfg (s : State) (b : Bank) : (s.setBank b).cfg = s.cfg := by
  unfold State.setBank
  split <;> rfl

@[simp] theorem State.setReg_pc (s : State) (r : Reg) (v : Byte) : (s.setReg r v).pc = s.pc := by
  cases r <;> simp [State.setReg]
@[simp] theorem State.setReg_psu (s : State) (r : Reg) (v : Byte) : (s.setReg r v).psu = s.psu := by
  cases r <;> simp [State.setReg]
@[simp] theorem State.setReg_psl (s : State) (r : Reg) (v : Byte) : (s.setReg r v).psl = s.psl := by
  cases r <;> simp [State.setReg]
@[simp] theorem State.setReg_ras (s : State) (r : Reg) (v : Byte) : (s.setReg r v).ras = s.ras := by
  cases r <;> simp [State.setReg]
@[simp] theorem State.setReg_waiting (s : State) (r : Reg) (v : Byte) : (s.setReg r v).waiting = s.waiting := by
  cases r <;> simp [State.setReg]
@[simp] theorem State.setReg_mem (s : State) (r : Reg) (v : Byte) : (s.setReg r v).mem = s.mem := by
  cases r <;> simp [State.setReg]
@[simp] theorem State.setReg_env (s : State) (r : Reg) (v : Byte) : (s.setReg r v).env = s.env := by
  cases r <;> simp [State.setReg]
@[simp] theorem State.setReg_trace (s : State) (r : Reg) (v : Byte) : (s.setReg r v).trace = s.trace := by
  cases r <;> simp [State.setReg]
@[simp] theorem State.setReg_cycles (s : State) (r : Reg) (v : Byte) : (s.setReg r v).cycles = s.cycles := by
  cases r <;> simp [State.setReg]
@[simp] theorem State.setReg_draws (s : State) (r : Reg) (v : Byte) : (s.setReg r v).draws = s.draws := by
  cases r <;> simp [State.setReg]
@[simp] theorem State.setReg_cfg (s : State) (r : Reg) (v : Byte) : (s.setReg r v).cfg = s.cfg := by
  cases r <;> simp [State.setReg]

@[simp] theorem State.stepIndex_pc (s : State) (r : Reg) (x : IndexCtl) : (s.stepIndex r x).pc = s.pc := by
  cases x <;> simp [State.stepIndex]
@[simp] theorem State.stepIndex_psu (s : State) (r : Reg) (x : IndexCtl) : (s.stepIndex r x).psu = s.psu := by
  cases x <;> simp [State.stepIndex]
@[simp] theorem State.stepIndex_psl (s : State) (r : Reg) (x : IndexCtl) : (s.stepIndex r x).psl = s.psl := by
  cases x <;> simp [State.stepIndex]
@[simp] theorem State.stepIndex_ras (s : State) (r : Reg) (x : IndexCtl) : (s.stepIndex r x).ras = s.ras := by
  cases x <;> simp [State.stepIndex]
@[simp] theorem State.stepIndex_waiting (s : State) (r : Reg) (x : IndexCtl) : (s.stepIndex r x).waiting = s.waiting := by
  cases x <;> simp [State.stepIndex]
@[simp] theorem State.stepIndex_mem (s : State) (r : Reg) (x : IndexCtl) : (s.stepIndex r x).mem = s.mem := by
  cases x <;> simp [State.stepIndex]
@[simp] theorem State.stepIndex_env (s : State) (r : Reg) (x : IndexCtl) : (s.stepIndex r x).env = s.env := by
  cases x <;> simp [State.stepIndex]
@[simp] theorem State.stepIndex_trace (s : State) (r : Reg) (x : IndexCtl) : (s.stepIndex r x).trace = s.trace := by
  cases x <;> simp [State.stepIndex]
@[simp] theorem State.stepIndex_cycles (s : State) (r : Reg) (x : IndexCtl) : (s.stepIndex r x).cycles = s.cycles := by
  cases x <;> simp [State.stepIndex]
@[simp] theorem State.stepIndex_draws (s : State) (r : Reg) (x : IndexCtl) : (s.stepIndex r x).draws = s.draws := by
  cases x <;> simp [State.stepIndex]
@[simp] theorem State.stepIndex_cfg (s : State) (r : Reg) (x : IndexCtl) : (s.stepIndex r x).cfg = s.cfg := by
  cases x <;> simp [State.stepIndex]

@[simp] theorem State.incReg_pc (s : State) (r : Reg) : (s.incReg r).pc = s.pc := by
  simp [State.incReg]
@[simp] theorem State.incReg_psu (s : State) (r : Reg) : (s.incReg r).psu = s.psu := by
  simp [State.incReg]
@[simp] theorem State.incReg_psl (s : State) (r : Reg) : (s.incReg r).psl = s.psl := by
  simp [State.incReg]
@[simp] theorem State.incReg_ras (s : State) (r : Reg) : (s.incReg r).ras = s.ras := by
  simp [State.incReg]
@[simp] theorem State.incReg_waiting (s : State) (r : Reg) : (s.incReg r).waiting = s.waiting := by
  simp [State.incReg]
@[simp] theorem State.incReg_mem (s : State) (r : Reg) : (s.incReg r).mem = s.mem := by
  simp [State.incReg]
@[simp] theorem State.incReg_env (s : State) (r : Reg) : (s.incReg r).env = s.env := by
  simp [State.incReg]
@[simp] theorem State.incReg_trace (s : State) (r : Reg) : (s.incReg r).trace = s.trace := by
  simp [State.incReg]
@[simp] theorem State.incReg_cycles (s : State) (r : Reg) : (s.incReg r).cycles = s.cycles := by
  simp [State.incReg]
@[simp] theorem State.incReg_draws (s : State) (r : Reg) : (s.incReg r).draws = s.draws := by
  simp [State.incReg]
@[simp] theorem State.incReg_cfg (s : State) (r : Reg) : (s.incReg r).cfg = s.cfg := by
  simp [State.incReg]

@[simp] theorem State.decReg_pc (s : State) (r : Reg) : (s.decReg r).pc = s.pc := by
  simp [State.decReg]
@[simp] theorem State.decReg_psu (s : State) (r : Reg) : (s.decReg r).psu = s.psu := by
  simp [State.decReg]
@[simp] theorem State.decReg_psl (s : State) (r : Reg) : (s.decReg r).psl = s.psl := by
  simp [State.decReg]
@[simp] theorem State.decReg_ras (s : State) (r : Reg) : (s.decReg r).ras = s.ras := by
  simp [State.decReg]
@[simp] theorem State.decReg_waiting (s : State) (r : Reg) : (s.decReg r).waiting = s.waiting := by
  simp [State.decReg]
@[simp] theorem State.decReg_mem (s : State) (r : Reg) : (s.decReg r).mem = s.mem := by
  simp [State.decReg]
@[simp] theorem State.decReg_env (s : State) (r : Reg) : (s.decReg r).env = s.env := by
  simp [State.decReg]
@[simp] theorem State.decReg_trace (s : State) (r : Reg) : (s.decReg r).trace = s.trace := by
  simp [State.decReg]
@[simp] theorem State.decReg_cycles (s : State) (r : Reg) : (s.decReg r).cycles = s.cycles := by
  simp [State.decReg]
@[simp] theorem State.decReg_draws (s : State) (r : Reg) : (s.decReg r).draws = s.draws := by
  simp [State.decReg]
@[simp] theorem State.decReg_cfg (s : State) (r : Reg) : (s.decReg r).cfg = s.cfg := by
  simp [State.decReg]

/-! ### The environment -/

@[simp] theorem State.emit_r0 (s : State) (e : Event) : (s.emit e).r0 = s.r0 := rfl
@[simp] theorem State.emit_bank0 (s : State) (e : Event) : (s.emit e).bank0 = s.bank0 := rfl
@[simp] theorem State.emit_bank1 (s : State) (e : Event) : (s.emit e).bank1 = s.bank1 := rfl
@[simp] theorem State.emit_pc (s : State) (e : Event) : (s.emit e).pc = s.pc := rfl
@[simp] theorem State.emit_psu (s : State) (e : Event) : (s.emit e).psu = s.psu := rfl
@[simp] theorem State.emit_psl (s : State) (e : Event) : (s.emit e).psl = s.psl := rfl
@[simp] theorem State.emit_ras (s : State) (e : Event) : (s.emit e).ras = s.ras := rfl
@[simp] theorem State.emit_waiting (s : State) (e : Event) : (s.emit e).waiting = s.waiting := rfl
@[simp] theorem State.emit_mem (s : State) (e : Event) : (s.emit e).mem = s.mem := rfl
@[simp] theorem State.emit_env (s : State) (e : Event) : (s.emit e).env = s.env := rfl
@[simp] theorem State.emit_cycles (s : State) (e : Event) : (s.emit e).cycles = s.cycles := rfl
@[simp] theorem State.emit_draws (s : State) (e : Event) : (s.emit e).draws = s.draws := rfl
@[simp] theorem State.emit_cfg (s : State) (e : Event) : (s.emit e).cfg = s.cfg := rfl

@[simp] theorem State.emit_trace (s : State) (e : Event) : (s.emit e).trace = s.trace ++ [e] := rfl

@[simp] theorem State.fresh_r0 (s : State) : (s.fresh.2).r0 = s.r0 := rfl
@[simp] theorem State.fresh_bank0 (s : State) : (s.fresh.2).bank0 = s.bank0 := rfl
@[simp] theorem State.fresh_bank1 (s : State) : (s.fresh.2).bank1 = s.bank1 := rfl
@[simp] theorem State.fresh_pc (s : State) : (s.fresh.2).pc = s.pc := rfl
@[simp] theorem State.fresh_psu (s : State) : (s.fresh.2).psu = s.psu := rfl
@[simp] theorem State.fresh_psl (s : State) : (s.fresh.2).psl = s.psl := rfl
@[simp] theorem State.fresh_ras (s : State) : (s.fresh.2).ras = s.ras := rfl
@[simp] theorem State.fresh_waiting (s : State) : (s.fresh.2).waiting = s.waiting := rfl
@[simp] theorem State.fresh_mem (s : State) : (s.fresh.2).mem = s.mem := rfl
@[simp] theorem State.fresh_env (s : State) : (s.fresh.2).env = s.env := rfl
@[simp] theorem State.fresh_trace (s : State) : (s.fresh.2).trace = s.trace := rfl
@[simp] theorem State.fresh_cycles (s : State) : (s.fresh.2).cycles = s.cycles := rfl
@[simp] theorem State.fresh_cfg (s : State) : (s.fresh.2).cfg = s.cfg := rfl

@[simp] theorem State.fresh_draws (s : State) : s.fresh.2.draws = s.draws + 1 := rfl
@[simp] theorem State.fresh_fst (s : State) : s.fresh.1 = s.draws := rfl

@[simp] theorem State.drawReset_r0 (s : State) : (s.drawReset.2).r0 = s.r0 := by
  unfold State.drawReset
  split <;> rfl
@[simp] theorem State.drawReset_bank0 (s : State) : (s.drawReset.2).bank0 = s.bank0 := by
  unfold State.drawReset
  split <;> rfl
@[simp] theorem State.drawReset_bank1 (s : State) : (s.drawReset.2).bank1 = s.bank1 := by
  unfold State.drawReset
  split <;> rfl
@[simp] theorem State.drawReset_pc (s : State) : (s.drawReset.2).pc = s.pc := by
  unfold State.drawReset
  split <;> rfl
@[simp] theorem State.drawReset_psu (s : State) : (s.drawReset.2).psu = s.psu := by
  unfold State.drawReset
  split <;> rfl
@[simp] theorem State.drawReset_psl (s : State) : (s.drawReset.2).psl = s.psl := by
  unfold State.drawReset
  split <;> rfl
@[simp] theorem State.drawReset_ras (s : State) : (s.drawReset.2).ras = s.ras := by
  unfold State.drawReset
  split <;> rfl
@[simp] theorem State.drawReset_waiting (s : State) : (s.drawReset.2).waiting = s.waiting := by
  unfold State.drawReset
  split <;> rfl
@[simp] theorem State.drawReset_mem (s : State) : (s.drawReset.2).mem = s.mem := by
  unfold State.drawReset
  split <;> rfl
@[simp] theorem State.drawReset_trace (s : State) : (s.drawReset.2).trace = s.trace := by
  unfold State.drawReset
  split <;> rfl
@[simp] theorem State.drawReset_cycles (s : State) : (s.drawReset.2).cycles = s.cycles := by
  unfold State.drawReset
  split <;> rfl
@[simp] theorem State.drawReset_draws (s : State) : (s.drawReset.2).draws = s.draws := by
  unfold State.drawReset
  split <;> rfl
@[simp] theorem State.drawReset_cfg (s : State) : (s.drawReset.2).cfg = s.cfg := by
  unfold State.drawReset
  split <;> rfl

@[simp] theorem State.drawIntReq_r0 (s : State) : (s.drawIntReq.2).r0 = s.r0 := by
  unfold State.drawIntReq
  split <;> rfl
@[simp] theorem State.drawIntReq_bank0 (s : State) : (s.drawIntReq.2).bank0 = s.bank0 := by
  unfold State.drawIntReq
  split <;> rfl
@[simp] theorem State.drawIntReq_bank1 (s : State) : (s.drawIntReq.2).bank1 = s.bank1 := by
  unfold State.drawIntReq
  split <;> rfl
@[simp] theorem State.drawIntReq_pc (s : State) : (s.drawIntReq.2).pc = s.pc := by
  unfold State.drawIntReq
  split <;> rfl
@[simp] theorem State.drawIntReq_psu (s : State) : (s.drawIntReq.2).psu = s.psu := by
  unfold State.drawIntReq
  split <;> rfl
@[simp] theorem State.drawIntReq_psl (s : State) : (s.drawIntReq.2).psl = s.psl := by
  unfold State.drawIntReq
  split <;> rfl
@[simp] theorem State.drawIntReq_ras (s : State) : (s.drawIntReq.2).ras = s.ras := by
  unfold State.drawIntReq
  split <;> rfl
@[simp] theorem State.drawIntReq_waiting (s : State) : (s.drawIntReq.2).waiting = s.waiting := by
  unfold State.drawIntReq
  split <;> rfl
@[simp] theorem State.drawIntReq_mem (s : State) : (s.drawIntReq.2).mem = s.mem := by
  unfold State.drawIntReq
  split <;> rfl
@[simp] theorem State.drawIntReq_trace (s : State) : (s.drawIntReq.2).trace = s.trace := by
  unfold State.drawIntReq
  split <;> rfl
@[simp] theorem State.drawIntReq_cycles (s : State) : (s.drawIntReq.2).cycles = s.cycles := by
  unfold State.drawIntReq
  split <;> rfl
@[simp] theorem State.drawIntReq_draws (s : State) : (s.drawIntReq.2).draws = s.draws := by
  unfold State.drawIntReq
  split <;> rfl
@[simp] theorem State.drawIntReq_cfg (s : State) : (s.drawIntReq.2).cfg = s.cfg := by
  unfold State.drawIntReq
  split <;> rfl

@[simp] theorem State.drawIntVector_r0 (s : State) : (s.drawIntVector.2).r0 = s.r0 := by
  unfold State.drawIntVector
  split <;> rfl
@[simp] theorem State.drawIntVector_bank0 (s : State) : (s.drawIntVector.2).bank0 = s.bank0 := by
  unfold State.drawIntVector
  split <;> rfl
@[simp] theorem State.drawIntVector_bank1 (s : State) : (s.drawIntVector.2).bank1 = s.bank1 := by
  unfold State.drawIntVector
  split <;> rfl
@[simp] theorem State.drawIntVector_pc (s : State) : (s.drawIntVector.2).pc = s.pc := by
  unfold State.drawIntVector
  split <;> rfl
@[simp] theorem State.drawIntVector_psu (s : State) : (s.drawIntVector.2).psu = s.psu := by
  unfold State.drawIntVector
  split <;> rfl
@[simp] theorem State.drawIntVector_psl (s : State) : (s.drawIntVector.2).psl = s.psl := by
  unfold State.drawIntVector
  split <;> rfl
@[simp] theorem State.drawIntVector_ras (s : State) : (s.drawIntVector.2).ras = s.ras := by
  unfold State.drawIntVector
  split <;> rfl
@[simp] theorem State.drawIntVector_waiting (s : State) : (s.drawIntVector.2).waiting = s.waiting := by
  unfold State.drawIntVector
  split <;> rfl
@[simp] theorem State.drawIntVector_mem (s : State) : (s.drawIntVector.2).mem = s.mem := by
  unfold State.drawIntVector
  split <;> rfl
@[simp] theorem State.drawIntVector_trace (s : State) : (s.drawIntVector.2).trace = s.trace := by
  unfold State.drawIntVector
  split <;> rfl
@[simp] theorem State.drawIntVector_cycles (s : State) : (s.drawIntVector.2).cycles = s.cycles := by
  unfold State.drawIntVector
  split <;> rfl
@[simp] theorem State.drawIntVector_cfg (s : State) : (s.drawIntVector.2).cfg = s.cfg := by
  unfold State.drawIntVector
  split <;> rfl

@[simp] theorem State.drawSense_r0 (s : State) : (s.drawSense.2).r0 = s.r0 := by
  unfold State.drawSense
  split <;> rfl
@[simp] theorem State.drawSense_bank0 (s : State) : (s.drawSense.2).bank0 = s.bank0 := by
  unfold State.drawSense
  split <;> rfl
@[simp] theorem State.drawSense_bank1 (s : State) : (s.drawSense.2).bank1 = s.bank1 := by
  unfold State.drawSense
  split <;> rfl
@[simp] theorem State.drawSense_pc (s : State) : (s.drawSense.2).pc = s.pc := by
  unfold State.drawSense
  split <;> rfl
@[simp] theorem State.drawSense_psu (s : State) : (s.drawSense.2).psu = s.psu := by
  unfold State.drawSense
  split <;> rfl
@[simp] theorem State.drawSense_psl (s : State) : (s.drawSense.2).psl = s.psl := by
  unfold State.drawSense
  split <;> rfl
@[simp] theorem State.drawSense_ras (s : State) : (s.drawSense.2).ras = s.ras := by
  unfold State.drawSense
  split <;> rfl
@[simp] theorem State.drawSense_waiting (s : State) : (s.drawSense.2).waiting = s.waiting := by
  unfold State.drawSense
  split <;> rfl
@[simp] theorem State.drawSense_mem (s : State) : (s.drawSense.2).mem = s.mem := by
  unfold State.drawSense
  split <;> rfl
@[simp] theorem State.drawSense_trace (s : State) : (s.drawSense.2).trace = s.trace := by
  unfold State.drawSense
  split <;> rfl
@[simp] theorem State.drawSense_cycles (s : State) : (s.drawSense.2).cycles = s.cycles := by
  unfold State.drawSense
  split <;> rfl
@[simp] theorem State.drawSense_cfg (s : State) : (s.drawSense.2).cfg = s.cfg := by
  unfold State.drawSense
  split <;> rfl

@[simp] theorem State.drawIoRead_r0 (s : State) : (s.drawIoRead.2).r0 = s.r0 := by
  unfold State.drawIoRead
  split <;> rfl
@[simp] theorem State.drawIoRead_bank0 (s : State) : (s.drawIoRead.2).bank0 = s.bank0 := by
  unfold State.drawIoRead
  split <;> rfl
@[simp] theorem State.drawIoRead_bank1 (s : State) : (s.drawIoRead.2).bank1 = s.bank1 := by
  unfold State.drawIoRead
  split <;> rfl
@[simp] theorem State.drawIoRead_pc (s : State) : (s.drawIoRead.2).pc = s.pc := by
  unfold State.drawIoRead
  split <;> rfl
@[simp] theorem State.drawIoRead_psu (s : State) : (s.drawIoRead.2).psu = s.psu := by
  unfold State.drawIoRead
  split <;> rfl
@[simp] theorem State.drawIoRead_psl (s : State) : (s.drawIoRead.2).psl = s.psl := by
  unfold State.drawIoRead
  split <;> rfl
@[simp] theorem State.drawIoRead_ras (s : State) : (s.drawIoRead.2).ras = s.ras := by
  unfold State.drawIoRead
  split <;> rfl
@[simp] theorem State.drawIoRead_waiting (s : State) : (s.drawIoRead.2).waiting = s.waiting := by
  unfold State.drawIoRead
  split <;> rfl
@[simp] theorem State.drawIoRead_mem (s : State) : (s.drawIoRead.2).mem = s.mem := by
  unfold State.drawIoRead
  split <;> rfl
@[simp] theorem State.drawIoRead_trace (s : State) : (s.drawIoRead.2).trace = s.trace := by
  unfold State.drawIoRead
  split <;> rfl
@[simp] theorem State.drawIoRead_cycles (s : State) : (s.drawIoRead.2).cycles = s.cycles := by
  unfold State.drawIoRead
  split <;> rfl
@[simp] theorem State.drawIoRead_cfg (s : State) : (s.drawIoRead.2).cfg = s.cfg := by
  unfold State.drawIoRead
  split <;> rfl

@[simp] theorem State.drawMemRead_r0 (s : State) : (s.drawMemRead.2).r0 = s.r0 := by
  unfold State.drawMemRead
  split <;> rfl
@[simp] theorem State.drawMemRead_bank0 (s : State) : (s.drawMemRead.2).bank0 = s.bank0 := by
  unfold State.drawMemRead
  split <;> rfl
@[simp] theorem State.drawMemRead_bank1 (s : State) : (s.drawMemRead.2).bank1 = s.bank1 := by
  unfold State.drawMemRead
  split <;> rfl
@[simp] theorem State.drawMemRead_pc (s : State) : (s.drawMemRead.2).pc = s.pc := by
  unfold State.drawMemRead
  split <;> rfl
@[simp] theorem State.drawMemRead_psu (s : State) : (s.drawMemRead.2).psu = s.psu := by
  unfold State.drawMemRead
  split <;> rfl
@[simp] theorem State.drawMemRead_psl (s : State) : (s.drawMemRead.2).psl = s.psl := by
  unfold State.drawMemRead
  split <;> rfl
@[simp] theorem State.drawMemRead_ras (s : State) : (s.drawMemRead.2).ras = s.ras := by
  unfold State.drawMemRead
  split <;> rfl
@[simp] theorem State.drawMemRead_waiting (s : State) : (s.drawMemRead.2).waiting = s.waiting := by
  unfold State.drawMemRead
  split <;> rfl
@[simp] theorem State.drawMemRead_mem (s : State) : (s.drawMemRead.2).mem = s.mem := by
  unfold State.drawMemRead
  split <;> rfl
@[simp] theorem State.drawMemRead_trace (s : State) : (s.drawMemRead.2).trace = s.trace := by
  unfold State.drawMemRead
  split <;> rfl
@[simp] theorem State.drawMemRead_cycles (s : State) : (s.drawMemRead.2).cycles = s.cycles := by
  unfold State.drawMemRead
  split <;> rfl
@[simp] theorem State.drawMemRead_cfg (s : State) : (s.drawMemRead.2).cfg = s.cfg := by
  unfold State.drawMemRead
  split <;> rfl

@[simp] theorem State.ioRead_r0 (s : State) (sp : IoSpace) : ((s.ioRead sp).2).r0 = s.r0 := by
  simp [State.ioRead]
@[simp] theorem State.ioRead_bank0 (s : State) (sp : IoSpace) : ((s.ioRead sp).2).bank0 = s.bank0 := by
  simp [State.ioRead]
@[simp] theorem State.ioRead_bank1 (s : State) (sp : IoSpace) : ((s.ioRead sp).2).bank1 = s.bank1 := by
  simp [State.ioRead]
@[simp] theorem State.ioRead_pc (s : State) (sp : IoSpace) : ((s.ioRead sp).2).pc = s.pc := by
  simp [State.ioRead]
@[simp] theorem State.ioRead_psu (s : State) (sp : IoSpace) : ((s.ioRead sp).2).psu = s.psu := by
  simp [State.ioRead]
@[simp] theorem State.ioRead_psl (s : State) (sp : IoSpace) : ((s.ioRead sp).2).psl = s.psl := by
  simp [State.ioRead]
@[simp] theorem State.ioRead_ras (s : State) (sp : IoSpace) : ((s.ioRead sp).2).ras = s.ras := by
  simp [State.ioRead]
@[simp] theorem State.ioRead_waiting (s : State) (sp : IoSpace) : ((s.ioRead sp).2).waiting = s.waiting := by
  simp [State.ioRead]
@[simp] theorem State.ioRead_mem (s : State) (sp : IoSpace) : ((s.ioRead sp).2).mem = s.mem := by
  simp [State.ioRead]
@[simp] theorem State.ioRead_cycles (s : State) (sp : IoSpace) : ((s.ioRead sp).2).cycles = s.cycles := by
  simp [State.ioRead]
@[simp] theorem State.ioRead_cfg (s : State) (sp : IoSpace) : ((s.ioRead sp).2).cfg = s.cfg := by
  simp [State.ioRead]

@[simp] theorem State.ioWrite_r0 (s : State) (sp : IoSpace) (v : Byte) : (s.ioWrite sp v).r0 = s.r0 := rfl
@[simp] theorem State.ioWrite_bank0 (s : State) (sp : IoSpace) (v : Byte) : (s.ioWrite sp v).bank0 = s.bank0 := rfl
@[simp] theorem State.ioWrite_bank1 (s : State) (sp : IoSpace) (v : Byte) : (s.ioWrite sp v).bank1 = s.bank1 := rfl
@[simp] theorem State.ioWrite_pc (s : State) (sp : IoSpace) (v : Byte) : (s.ioWrite sp v).pc = s.pc := rfl
@[simp] theorem State.ioWrite_psu (s : State) (sp : IoSpace) (v : Byte) : (s.ioWrite sp v).psu = s.psu := rfl
@[simp] theorem State.ioWrite_psl (s : State) (sp : IoSpace) (v : Byte) : (s.ioWrite sp v).psl = s.psl := rfl
@[simp] theorem State.ioWrite_ras (s : State) (sp : IoSpace) (v : Byte) : (s.ioWrite sp v).ras = s.ras := rfl
@[simp] theorem State.ioWrite_waiting (s : State) (sp : IoSpace) (v : Byte) : (s.ioWrite sp v).waiting = s.waiting := rfl
@[simp] theorem State.ioWrite_mem (s : State) (sp : IoSpace) (v : Byte) : (s.ioWrite sp v).mem = s.mem := rfl
@[simp] theorem State.ioWrite_env (s : State) (sp : IoSpace) (v : Byte) : (s.ioWrite sp v).env = s.env := rfl
@[simp] theorem State.ioWrite_cycles (s : State) (sp : IoSpace) (v : Byte) : (s.ioWrite sp v).cycles = s.cycles := rfl
@[simp] theorem State.ioWrite_draws (s : State) (sp : IoSpace) (v : Byte) : (s.ioWrite sp v).draws = s.draws := rfl
@[simp] theorem State.ioWrite_cfg (s : State) (sp : IoSpace) (v : Byte) : (s.ioWrite sp v).cfg = s.cfg := rfl

/-! ### Memory accesses -/

@[simp] theorem State.memRead_r0 (s : State) (a : Addr) : ((s.memRead a).2).r0 = s.r0 := by
  unfold State.memRead
  split <;> simp
@[simp] theorem State.memRead_bank0 (s : State) (a : Addr) : ((s.memRead a).2).bank0 = s.bank0 := by
  unfold State.memRead
  split <;> simp
@[simp] theorem State.memRead_bank1 (s : State) (a : Addr) : ((s.memRead a).2).bank1 = s.bank1 := by
  unfold State.memRead
  split <;> simp
@[simp] theorem State.memRead_pc (s : State) (a : Addr) : ((s.memRead a).2).pc = s.pc := by
  unfold State.memRead
  split <;> simp
@[simp] theorem State.memRead_psu (s : State) (a : Addr) : ((s.memRead a).2).psu = s.psu := by
  unfold State.memRead
  split <;> simp
@[simp] theorem State.memRead_psl (s : State) (a : Addr) : ((s.memRead a).2).psl = s.psl := by
  unfold State.memRead
  split <;> simp
@[simp] theorem State.memRead_ras (s : State) (a : Addr) : ((s.memRead a).2).ras = s.ras := by
  unfold State.memRead
  split <;> simp
@[simp] theorem State.memRead_waiting (s : State) (a : Addr) : ((s.memRead a).2).waiting = s.waiting := by
  unfold State.memRead
  split <;> simp
@[simp] theorem State.memRead_mem (s : State) (a : Addr) : ((s.memRead a).2).mem = s.mem := by
  unfold State.memRead
  split <;> simp
@[simp] theorem State.memRead_cycles (s : State) (a : Addr) : ((s.memRead a).2).cycles = s.cycles := by
  unfold State.memRead
  split <;> simp
@[simp] theorem State.memRead_cfg (s : State) (a : Addr) : ((s.memRead a).2).cfg = s.cfg := by
  unfold State.memRead
  split <;> simp

@[simp] theorem State.memWrite_r0 (s : State) (a : Addr) (v : Byte) : (s.memWrite a v).r0 = s.r0 := by
  unfold State.memWrite
  split <;> simp
@[simp] theorem State.memWrite_bank0 (s : State) (a : Addr) (v : Byte) : (s.memWrite a v).bank0 = s.bank0 := by
  unfold State.memWrite
  split <;> simp
@[simp] theorem State.memWrite_bank1 (s : State) (a : Addr) (v : Byte) : (s.memWrite a v).bank1 = s.bank1 := by
  unfold State.memWrite
  split <;> simp
@[simp] theorem State.memWrite_pc (s : State) (a : Addr) (v : Byte) : (s.memWrite a v).pc = s.pc := by
  unfold State.memWrite
  split <;> simp
@[simp] theorem State.memWrite_psu (s : State) (a : Addr) (v : Byte) : (s.memWrite a v).psu = s.psu := by
  unfold State.memWrite
  split <;> simp
@[simp] theorem State.memWrite_psl (s : State) (a : Addr) (v : Byte) : (s.memWrite a v).psl = s.psl := by
  unfold State.memWrite
  split <;> simp
@[simp] theorem State.memWrite_ras (s : State) (a : Addr) (v : Byte) : (s.memWrite a v).ras = s.ras := by
  unfold State.memWrite
  split <;> simp
@[simp] theorem State.memWrite_waiting (s : State) (a : Addr) (v : Byte) : (s.memWrite a v).waiting = s.waiting := by
  unfold State.memWrite
  split <;> simp
@[simp] theorem State.memWrite_env (s : State) (a : Addr) (v : Byte) : (s.memWrite a v).env = s.env := by
  unfold State.memWrite
  split <;> simp
@[simp] theorem State.memWrite_cycles (s : State) (a : Addr) (v : Byte) : (s.memWrite a v).cycles = s.cycles := by
  unfold State.memWrite
  split <;> simp
@[simp] theorem State.memWrite_draws (s : State) (a : Addr) (v : Byte) : (s.memWrite a v).draws = s.draws := by
  unfold State.memWrite
  split <;> simp
@[simp] theorem State.memWrite_cfg (s : State) (a : Addr) (v : Byte) : (s.memWrite a v).cfg = s.cfg := by
  unfold State.memWrite
  split <;> simp

/-- `ReadPtr` as its two reads. -/
theorem State.readPtr_eq (s : State) (p : Addr) :
    s.readPtr p =
      ((s.memRead p).1.extractLsb' 0 7 ++ ((s.memRead p).2.memRead (inpage p 1)).1,
        ((s.memRead p).2.memRead (inpage p 1)).2) := rfl

@[simp] theorem State.readPtr_r0 (s : State) (p : Addr) : ((s.readPtr p).2).r0 = s.r0 := by
  simp [State.readPtr_eq]
@[simp] theorem State.readPtr_bank0 (s : State) (p : Addr) : ((s.readPtr p).2).bank0 = s.bank0 := by
  simp [State.readPtr_eq]
@[simp] theorem State.readPtr_bank1 (s : State) (p : Addr) : ((s.readPtr p).2).bank1 = s.bank1 := by
  simp [State.readPtr_eq]
@[simp] theorem State.readPtr_pc (s : State) (p : Addr) : ((s.readPtr p).2).pc = s.pc := by
  simp [State.readPtr_eq]
@[simp] theorem State.readPtr_psu (s : State) (p : Addr) : ((s.readPtr p).2).psu = s.psu := by
  simp [State.readPtr_eq]
@[simp] theorem State.readPtr_psl (s : State) (p : Addr) : ((s.readPtr p).2).psl = s.psl := by
  simp [State.readPtr_eq]
@[simp] theorem State.readPtr_ras (s : State) (p : Addr) : ((s.readPtr p).2).ras = s.ras := by
  simp [State.readPtr_eq]
@[simp] theorem State.readPtr_waiting (s : State) (p : Addr) : ((s.readPtr p).2).waiting = s.waiting := by
  simp [State.readPtr_eq]
@[simp] theorem State.readPtr_mem (s : State) (p : Addr) : ((s.readPtr p).2).mem = s.mem := by
  simp [State.readPtr_eq]
@[simp] theorem State.readPtr_cycles (s : State) (p : Addr) : ((s.readPtr p).2).cycles = s.cycles := by
  simp [State.readPtr_eq]
@[simp] theorem State.readPtr_cfg (s : State) (p : Addr) : ((s.readPtr p).2).cfg = s.cfg := by
  simp [State.readPtr_eq]

@[simp] theorem State.resolve_r0 (s : State) (i : Bool) (p : Addr) : ((s.resolve i p).2).r0 = s.r0 := by
  cases i <;> simp [State.resolve]
@[simp] theorem State.resolve_bank0 (s : State) (i : Bool) (p : Addr) : ((s.resolve i p).2).bank0 = s.bank0 := by
  cases i <;> simp [State.resolve]
@[simp] theorem State.resolve_bank1 (s : State) (i : Bool) (p : Addr) : ((s.resolve i p).2).bank1 = s.bank1 := by
  cases i <;> simp [State.resolve]
@[simp] theorem State.resolve_pc (s : State) (i : Bool) (p : Addr) : ((s.resolve i p).2).pc = s.pc := by
  cases i <;> simp [State.resolve]
@[simp] theorem State.resolve_psu (s : State) (i : Bool) (p : Addr) : ((s.resolve i p).2).psu = s.psu := by
  cases i <;> simp [State.resolve]
@[simp] theorem State.resolve_psl (s : State) (i : Bool) (p : Addr) : ((s.resolve i p).2).psl = s.psl := by
  cases i <;> simp [State.resolve]
@[simp] theorem State.resolve_ras (s : State) (i : Bool) (p : Addr) : ((s.resolve i p).2).ras = s.ras := by
  cases i <;> simp [State.resolve]
@[simp] theorem State.resolve_waiting (s : State) (i : Bool) (p : Addr) : ((s.resolve i p).2).waiting = s.waiting := by
  cases i <;> simp [State.resolve]
@[simp] theorem State.resolve_mem (s : State) (i : Bool) (p : Addr) : ((s.resolve i p).2).mem = s.mem := by
  cases i <;> simp [State.resolve]
@[simp] theorem State.resolve_cycles (s : State) (i : Bool) (p : Addr) : ((s.resolve i p).2).cycles = s.cycles := by
  cases i <;> simp [State.resolve]
@[simp] theorem State.resolve_cfg (s : State) (i : Bool) (p : Addr) : ((s.resolve i p).2).cfg = s.cfg := by
  cases i <;> simp [State.resolve]

@[simp] theorem State.eaR_r0 (s : State) (i : Bool) (d : Disp) : ((s.eaR i d).2).r0 = s.r0 := by
  simp [State.eaR]
@[simp] theorem State.eaR_bank0 (s : State) (i : Bool) (d : Disp) : ((s.eaR i d).2).bank0 = s.bank0 := by
  simp [State.eaR]
@[simp] theorem State.eaR_bank1 (s : State) (i : Bool) (d : Disp) : ((s.eaR i d).2).bank1 = s.bank1 := by
  simp [State.eaR]
@[simp] theorem State.eaR_pc (s : State) (i : Bool) (d : Disp) : ((s.eaR i d).2).pc = s.pc := by
  simp [State.eaR]
@[simp] theorem State.eaR_psu (s : State) (i : Bool) (d : Disp) : ((s.eaR i d).2).psu = s.psu := by
  simp [State.eaR]
@[simp] theorem State.eaR_psl (s : State) (i : Bool) (d : Disp) : ((s.eaR i d).2).psl = s.psl := by
  simp [State.eaR]
@[simp] theorem State.eaR_ras (s : State) (i : Bool) (d : Disp) : ((s.eaR i d).2).ras = s.ras := by
  simp [State.eaR]
@[simp] theorem State.eaR_waiting (s : State) (i : Bool) (d : Disp) : ((s.eaR i d).2).waiting = s.waiting := by
  simp [State.eaR]
@[simp] theorem State.eaR_mem (s : State) (i : Bool) (d : Disp) : ((s.eaR i d).2).mem = s.mem := by
  simp [State.eaR]
@[simp] theorem State.eaR_cycles (s : State) (i : Bool) (d : Disp) : ((s.eaR i d).2).cycles = s.cycles := by
  simp [State.eaR]
@[simp] theorem State.eaR_cfg (s : State) (i : Bool) (d : Disp) : ((s.eaR i d).2).cfg = s.cfg := by
  simp [State.eaR]

@[simp] theorem State.eaB_r0 (s : State) (i : Bool) (a : Addr) : ((s.eaB i a).2).r0 = s.r0 := by
  simp [State.eaB]
@[simp] theorem State.eaB_bank0 (s : State) (i : Bool) (a : Addr) : ((s.eaB i a).2).bank0 = s.bank0 := by
  simp [State.eaB]
@[simp] theorem State.eaB_bank1 (s : State) (i : Bool) (a : Addr) : ((s.eaB i a).2).bank1 = s.bank1 := by
  simp [State.eaB]
@[simp] theorem State.eaB_pc (s : State) (i : Bool) (a : Addr) : ((s.eaB i a).2).pc = s.pc := by
  simp [State.eaB]
@[simp] theorem State.eaB_psu (s : State) (i : Bool) (a : Addr) : ((s.eaB i a).2).psu = s.psu := by
  simp [State.eaB]
@[simp] theorem State.eaB_psl (s : State) (i : Bool) (a : Addr) : ((s.eaB i a).2).psl = s.psl := by
  simp [State.eaB]
@[simp] theorem State.eaB_ras (s : State) (i : Bool) (a : Addr) : ((s.eaB i a).2).ras = s.ras := by
  simp [State.eaB]
@[simp] theorem State.eaB_waiting (s : State) (i : Bool) (a : Addr) : ((s.eaB i a).2).waiting = s.waiting := by
  simp [State.eaB]
@[simp] theorem State.eaB_mem (s : State) (i : Bool) (a : Addr) : ((s.eaB i a).2).mem = s.mem := by
  simp [State.eaB]
@[simp] theorem State.eaB_cycles (s : State) (i : Bool) (a : Addr) : ((s.eaB i a).2).cycles = s.cycles := by
  simp [State.eaB]
@[simp] theorem State.eaB_cfg (s : State) (i : Bool) (a : Addr) : ((s.eaB i a).2).cfg = s.cfg := by
  simp [State.eaB]

@[simp] theorem State.eaZ0_r0 (s : State) (i : Bool) (d : Disp) : ((s.eaZ0 i d).2).r0 = s.r0 := by
  simp [State.eaZ0]
@[simp] theorem State.eaZ0_bank0 (s : State) (i : Bool) (d : Disp) : ((s.eaZ0 i d).2).bank0 = s.bank0 := by
  simp [State.eaZ0]
@[simp] theorem State.eaZ0_bank1 (s : State) (i : Bool) (d : Disp) : ((s.eaZ0 i d).2).bank1 = s.bank1 := by
  simp [State.eaZ0]
@[simp] theorem State.eaZ0_pc (s : State) (i : Bool) (d : Disp) : ((s.eaZ0 i d).2).pc = s.pc := by
  simp [State.eaZ0]
@[simp] theorem State.eaZ0_psu (s : State) (i : Bool) (d : Disp) : ((s.eaZ0 i d).2).psu = s.psu := by
  simp [State.eaZ0]
@[simp] theorem State.eaZ0_psl (s : State) (i : Bool) (d : Disp) : ((s.eaZ0 i d).2).psl = s.psl := by
  simp [State.eaZ0]
@[simp] theorem State.eaZ0_ras (s : State) (i : Bool) (d : Disp) : ((s.eaZ0 i d).2).ras = s.ras := by
  simp [State.eaZ0]
@[simp] theorem State.eaZ0_waiting (s : State) (i : Bool) (d : Disp) : ((s.eaZ0 i d).2).waiting = s.waiting := by
  simp [State.eaZ0]
@[simp] theorem State.eaZ0_mem (s : State) (i : Bool) (d : Disp) : ((s.eaZ0 i d).2).mem = s.mem := by
  simp [State.eaZ0]
@[simp] theorem State.eaZ0_cycles (s : State) (i : Bool) (d : Disp) : ((s.eaZ0 i d).2).cycles = s.cycles := by
  simp [State.eaZ0]
@[simp] theorem State.eaZ0_cfg (s : State) (i : Bool) (d : Disp) : ((s.eaZ0 i d).2).cfg = s.cfg := by
  simp [State.eaZ0]

/-! ### Program counter, stack, run/wait flag -/

@[simp] theorem State.retire_r0 (s : State) (len : Offset) (cyc : Nat) : (s.retire len cyc).r0 = s.r0 := rfl
@[simp] theorem State.retire_bank0 (s : State) (len : Offset) (cyc : Nat) : (s.retire len cyc).bank0 = s.bank0 := rfl
@[simp] theorem State.retire_bank1 (s : State) (len : Offset) (cyc : Nat) : (s.retire len cyc).bank1 = s.bank1 := rfl
@[simp] theorem State.retire_psu (s : State) (len : Offset) (cyc : Nat) : (s.retire len cyc).psu = s.psu := rfl
@[simp] theorem State.retire_psl (s : State) (len : Offset) (cyc : Nat) : (s.retire len cyc).psl = s.psl := rfl
@[simp] theorem State.retire_ras (s : State) (len : Offset) (cyc : Nat) : (s.retire len cyc).ras = s.ras := rfl
@[simp] theorem State.retire_waiting (s : State) (len : Offset) (cyc : Nat) : (s.retire len cyc).waiting = s.waiting := rfl
@[simp] theorem State.retire_mem (s : State) (len : Offset) (cyc : Nat) : (s.retire len cyc).mem = s.mem := rfl
@[simp] theorem State.retire_env (s : State) (len : Offset) (cyc : Nat) : (s.retire len cyc).env = s.env := rfl
@[simp] theorem State.retire_trace (s : State) (len : Offset) (cyc : Nat) : (s.retire len cyc).trace = s.trace := rfl
@[simp] theorem State.retire_draws (s : State) (len : Offset) (cyc : Nat) : (s.retire len cyc).draws = s.draws := rfl
@[simp] theorem State.retire_cfg (s : State) (len : Offset) (cyc : Nat) : (s.retire len cyc).cfg = s.cfg := rfl

@[simp] theorem State.retire_pc (s : State) (len : Offset) (cyc : Nat) : (s.retire len cyc).pc = inpage s.pc len := rfl
@[simp] theorem State.retire_cycles (s : State) (len : Offset) (cyc : Nat) :
    (s.retire len cyc).cycles = s.cycles + cyc := rfl

@[simp] theorem State.jump_r0 (s : State) (a : Addr) (cyc : Nat) : (s.jump a cyc).r0 = s.r0 := rfl
@[simp] theorem State.jump_bank0 (s : State) (a : Addr) (cyc : Nat) : (s.jump a cyc).bank0 = s.bank0 := rfl
@[simp] theorem State.jump_bank1 (s : State) (a : Addr) (cyc : Nat) : (s.jump a cyc).bank1 = s.bank1 := rfl
@[simp] theorem State.jump_psu (s : State) (a : Addr) (cyc : Nat) : (s.jump a cyc).psu = s.psu := rfl
@[simp] theorem State.jump_psl (s : State) (a : Addr) (cyc : Nat) : (s.jump a cyc).psl = s.psl := rfl
@[simp] theorem State.jump_ras (s : State) (a : Addr) (cyc : Nat) : (s.jump a cyc).ras = s.ras := rfl
@[simp] theorem State.jump_waiting (s : State) (a : Addr) (cyc : Nat) : (s.jump a cyc).waiting = s.waiting := rfl
@[simp] theorem State.jump_mem (s : State) (a : Addr) (cyc : Nat) : (s.jump a cyc).mem = s.mem := rfl
@[simp] theorem State.jump_env (s : State) (a : Addr) (cyc : Nat) : (s.jump a cyc).env = s.env := rfl
@[simp] theorem State.jump_trace (s : State) (a : Addr) (cyc : Nat) : (s.jump a cyc).trace = s.trace := rfl
@[simp] theorem State.jump_draws (s : State) (a : Addr) (cyc : Nat) : (s.jump a cyc).draws = s.draws := rfl
@[simp] theorem State.jump_cfg (s : State) (a : Addr) (cyc : Nat) : (s.jump a cyc).cfg = s.cfg := rfl

@[simp] theorem State.jump_pc (s : State) (a : Addr) (cyc : Nat) : (s.jump a cyc).pc = a := rfl
@[simp] theorem State.jump_cycles (s : State) (a : Addr) (cyc : Nat) :
    (s.jump a cyc).cycles = s.cycles + cyc := rfl

@[simp] theorem State.push_r0 (s : State) (a : Addr) : (s.push a).r0 = s.r0 := rfl
@[simp] theorem State.push_bank0 (s : State) (a : Addr) : (s.push a).bank0 = s.bank0 := rfl
@[simp] theorem State.push_bank1 (s : State) (a : Addr) : (s.push a).bank1 = s.bank1 := rfl
@[simp] theorem State.push_pc (s : State) (a : Addr) : (s.push a).pc = s.pc := rfl
@[simp] theorem State.push_psl (s : State) (a : Addr) : (s.push a).psl = s.psl := rfl
@[simp] theorem State.push_waiting (s : State) (a : Addr) : (s.push a).waiting = s.waiting := rfl
@[simp] theorem State.push_mem (s : State) (a : Addr) : (s.push a).mem = s.mem := rfl
@[simp] theorem State.push_env (s : State) (a : Addr) : (s.push a).env = s.env := rfl
@[simp] theorem State.push_trace (s : State) (a : Addr) : (s.push a).trace = s.trace := rfl
@[simp] theorem State.push_cycles (s : State) (a : Addr) : (s.push a).cycles = s.cycles := rfl
@[simp] theorem State.push_draws (s : State) (a : Addr) : (s.push a).draws = s.draws := rfl
@[simp] theorem State.push_cfg (s : State) (a : Addr) : (s.push a).cfg = s.cfg := rfl

@[simp] theorem State.push_psu (s : State) (a : Addr) : (s.push a).psu = putSp s.psu (s.sp + 1) := rfl
@[simp] theorem State.push_ras (s : State) (a : Addr) :
    (s.push a).ras = s.ras.set (s.sp + 1).toNat a (s.sp + 1).isLt := rfl

@[simp] theorem State.pop_r0 (s : State) : (s.pop.2).r0 = s.r0 := rfl
@[simp] theorem State.pop_bank0 (s : State) : (s.pop.2).bank0 = s.bank0 := rfl
@[simp] theorem State.pop_bank1 (s : State) : (s.pop.2).bank1 = s.bank1 := rfl
@[simp] theorem State.pop_pc (s : State) : (s.pop.2).pc = s.pc := rfl
@[simp] theorem State.pop_psl (s : State) : (s.pop.2).psl = s.psl := rfl
@[simp] theorem State.pop_ras (s : State) : (s.pop.2).ras = s.ras := rfl
@[simp] theorem State.pop_waiting (s : State) : (s.pop.2).waiting = s.waiting := rfl
@[simp] theorem State.pop_mem (s : State) : (s.pop.2).mem = s.mem := rfl
@[simp] theorem State.pop_env (s : State) : (s.pop.2).env = s.env := rfl
@[simp] theorem State.pop_trace (s : State) : (s.pop.2).trace = s.trace := rfl
@[simp] theorem State.pop_cycles (s : State) : (s.pop.2).cycles = s.cycles := rfl
@[simp] theorem State.pop_draws (s : State) : (s.pop.2).draws = s.draws := rfl
@[simp] theorem State.pop_cfg (s : State) : (s.pop.2).cfg = s.cfg := rfl

@[simp] theorem State.pop_psu (s : State) : s.pop.2.psu = putSp s.psu (s.sp - 1) := rfl
@[simp] theorem State.pop_fst (s : State) : s.pop.1 = s.ras[s.sp.toNat]'s.sp.isLt := rfl

@[simp] theorem State.call_r0 (s : State) (len : Offset) (ea : Addr) (cyc : Nat) : (s.call len ea cyc).r0 = s.r0 := rfl
@[simp] theorem State.call_bank0 (s : State) (len : Offset) (ea : Addr) (cyc : Nat) : (s.call len ea cyc).bank0 = s.bank0 := rfl
@[simp] theorem State.call_bank1 (s : State) (len : Offset) (ea : Addr) (cyc : Nat) : (s.call len ea cyc).bank1 = s.bank1 := rfl
@[simp] theorem State.call_psl (s : State) (len : Offset) (ea : Addr) (cyc : Nat) : (s.call len ea cyc).psl = s.psl := rfl
@[simp] theorem State.call_waiting (s : State) (len : Offset) (ea : Addr) (cyc : Nat) : (s.call len ea cyc).waiting = s.waiting := rfl
@[simp] theorem State.call_mem (s : State) (len : Offset) (ea : Addr) (cyc : Nat) : (s.call len ea cyc).mem = s.mem := rfl
@[simp] theorem State.call_env (s : State) (len : Offset) (ea : Addr) (cyc : Nat) : (s.call len ea cyc).env = s.env := rfl
@[simp] theorem State.call_trace (s : State) (len : Offset) (ea : Addr) (cyc : Nat) : (s.call len ea cyc).trace = s.trace := rfl
@[simp] theorem State.call_draws (s : State) (len : Offset) (ea : Addr) (cyc : Nat) : (s.call len ea cyc).draws = s.draws := rfl
@[simp] theorem State.call_cfg (s : State) (len : Offset) (ea : Addr) (cyc : Nat) : (s.call len ea cyc).cfg = s.cfg := rfl

@[simp] theorem State.call_psu (s : State) (len : Offset) (ea : Addr) (cyc : Nat) :
    (s.call len ea cyc).psu = putSp s.psu (s.sp + 1) := rfl
@[simp] theorem State.call_ras (s : State) (len : Offset) (ea : Addr) (cyc : Nat) :
    (s.call len ea cyc).ras = s.ras.set (s.sp + 1).toNat (inpage s.pc len) (s.sp + 1).isLt := rfl
@[simp] theorem State.call_pc (s : State) (len : Offset) (ea : Addr) (cyc : Nat) : (s.call len ea cyc).pc = ea := rfl
@[simp] theorem State.call_cycles (s : State) (len : Offset) (ea : Addr) (cyc : Nat) :
    (s.call len ea cyc).cycles = s.cycles + cyc := rfl

@[simp] theorem State.setWaiting_r0 (s : State) (b : Bool) : (s.setWaiting b).r0 = s.r0 := by
  unfold State.setWaiting
  split <;> rfl
@[simp] theorem State.setWaiting_bank0 (s : State) (b : Bool) : (s.setWaiting b).bank0 = s.bank0 := by
  unfold State.setWaiting
  split <;> rfl
@[simp] theorem State.setWaiting_bank1 (s : State) (b : Bool) : (s.setWaiting b).bank1 = s.bank1 := by
  unfold State.setWaiting
  split <;> rfl
@[simp] theorem State.setWaiting_pc (s : State) (b : Bool) : (s.setWaiting b).pc = s.pc := by
  unfold State.setWaiting
  split <;> rfl
@[simp] theorem State.setWaiting_psu (s : State) (b : Bool) : (s.setWaiting b).psu = s.psu := by
  unfold State.setWaiting
  split <;> rfl
@[simp] theorem State.setWaiting_psl (s : State) (b : Bool) : (s.setWaiting b).psl = s.psl := by
  unfold State.setWaiting
  split <;> rfl
@[simp] theorem State.setWaiting_ras (s : State) (b : Bool) : (s.setWaiting b).ras = s.ras := by
  unfold State.setWaiting
  split <;> rfl
@[simp] theorem State.setWaiting_mem (s : State) (b : Bool) : (s.setWaiting b).mem = s.mem := by
  unfold State.setWaiting
  split <;> rfl
@[simp] theorem State.setWaiting_env (s : State) (b : Bool) : (s.setWaiting b).env = s.env := by
  unfold State.setWaiting
  split <;> rfl
@[simp] theorem State.setWaiting_cycles (s : State) (b : Bool) : (s.setWaiting b).cycles = s.cycles := by
  unfold State.setWaiting
  split <;> rfl
@[simp] theorem State.setWaiting_draws (s : State) (b : Bool) : (s.setWaiting b).draws = s.draws := by
  unfold State.setWaiting
  split <;> rfl
@[simp] theorem State.setWaiting_cfg (s : State) (b : Bool) : (s.setWaiting b).cfg = s.cfg := by
  unfold State.setWaiting
  split <;> rfl

@[simp] theorem State.setWaiting_waiting (s : State) (b : Bool) : (s.setWaiting b).waiting = b := by
  unfold State.setWaiting
  split <;> simp_all

@[simp] theorem State.selectPsu_r0 (s : State) (sel v : Byte) : (s.selectPsu sel v).r0 = s.r0 := by
  unfold State.selectPsu
  dsimp only
  split <;> rfl
@[simp] theorem State.selectPsu_bank0 (s : State) (sel v : Byte) : (s.selectPsu sel v).bank0 = s.bank0 := by
  unfold State.selectPsu
  dsimp only
  split <;> rfl
@[simp] theorem State.selectPsu_bank1 (s : State) (sel v : Byte) : (s.selectPsu sel v).bank1 = s.bank1 := by
  unfold State.selectPsu
  dsimp only
  split <;> rfl
@[simp] theorem State.selectPsu_pc (s : State) (sel v : Byte) : (s.selectPsu sel v).pc = s.pc := by
  unfold State.selectPsu
  dsimp only
  split <;> rfl
@[simp] theorem State.selectPsu_psl (s : State) (sel v : Byte) : (s.selectPsu sel v).psl = s.psl := by
  unfold State.selectPsu
  dsimp only
  split <;> rfl
@[simp] theorem State.selectPsu_ras (s : State) (sel v : Byte) : (s.selectPsu sel v).ras = s.ras := by
  unfold State.selectPsu
  dsimp only
  split <;> rfl
@[simp] theorem State.selectPsu_waiting (s : State) (sel v : Byte) : (s.selectPsu sel v).waiting = s.waiting := by
  unfold State.selectPsu
  dsimp only
  split <;> rfl
@[simp] theorem State.selectPsu_mem (s : State) (sel v : Byte) : (s.selectPsu sel v).mem = s.mem := by
  unfold State.selectPsu
  dsimp only
  split <;> rfl
@[simp] theorem State.selectPsu_env (s : State) (sel v : Byte) : (s.selectPsu sel v).env = s.env := by
  unfold State.selectPsu
  dsimp only
  split <;> rfl
@[simp] theorem State.selectPsu_cycles (s : State) (sel v : Byte) : (s.selectPsu sel v).cycles = s.cycles := by
  unfold State.selectPsu
  dsimp only
  split <;> rfl
@[simp] theorem State.selectPsu_draws (s : State) (sel v : Byte) : (s.selectPsu sel v).draws = s.draws := by
  unfold State.selectPsu
  dsimp only
  split <;> rfl
@[simp] theorem State.selectPsu_cfg (s : State) (sel v : Byte) : (s.selectPsu sel v).cfg = s.cfg := by
  unfold State.selectPsu
  dsimp only
  split <;> rfl

@[simp] theorem State.selectPsu_psu (s : State) (sel v : Byte) :
    (s.selectPsu sel v).psu = putPsu s.psu sel v := by
  unfold State.selectPsu
  dsimp only
  split <;> rfl

end Sys2Proof.Machine
end

