-- ==== Sys2Proof/Laws/Registers.lean ====
section
/-! SUPPORT. General registers: a read after a write, and the bank that is not selected. -/

namespace Sys2Proof.Machine

/-- The bank that RS does not select (10_state.md R22). -/
def State.otherBank (s : State) : Bank := if s.psl.rs then s.bank0 else s.bank1

@[simp] theorem State.getReg_setReg_same (s : State) (r : Reg) (v : Byte) : (s.setReg r v).getReg r = v := by
  cases r <;> cases h : s.psl.rs <;> simp [State.setReg, State.getReg, State.bank, State.setBank, h]

theorem State.getReg_setReg_other (s : State) {r q : Reg} (v : Byte) (h : q ≠ r) :
    (s.setReg r v).getReg q = s.getReg q := by
  cases r <;> cases q <;> cases hs : s.psl.rs <;>
    simp_all [State.setReg, State.getReg, State.bank, State.setBank]

/-- Every register after a write of one. -/
theorem State.getReg_setReg (s : State) (r q : Reg) (v : Byte) :
    (s.setReg r v).getReg q = if q = r then v else s.getReg q := by
  split
  · next h => rw [h, State.getReg_setReg_same]
  · next h => exact State.getReg_setReg_other s v h

@[simp] theorem State.otherBank_setReg (s : State) (r : Reg) (v : Byte) :
    (s.setReg r v).otherBank = s.otherBank := by
  cases r <;> cases h : s.psl.rs <;> simp [State.setReg, State.otherBank, State.setBank, h]

/-- A register reads the same in states with the same registers and the same RS. -/
theorem State.getReg_congr {s t : State} (h0 : t.r0 = s.r0) (h1 : t.bank0 = s.bank0) (h2 : t.bank1 = s.bank1)
    (h3 : t.psl.rs = s.psl.rs) (q : Reg) : t.getReg q = s.getReg q := by
  cases q <;> simp [State.getReg, State.bank, h0, h1, h2, h3]

theorem State.otherBank_congr {s t : State} (h1 : t.bank0 = s.bank0) (h2 : t.bank1 = s.bank1)
    (h3 : t.psl.rs = s.psl.rs) : t.otherBank = s.otherBank := by
  simp [State.otherBank, h1, h2, h3]

end Sys2Proof.Machine
end

