-- ==== Sys2Proof/Laws/Ops.lean ====
section
/-! SUPPORT. For each shared operation, what it can do, said once. -/

namespace Sys2Proof.Machine

/-! ### Outcomes -/

@[simp] theorem andThen_next {α β : Type} (a : α) (k : α → Host.Outcome β Fault Refusal) :
    andThen (.next a) k = k a := rfl

@[simp] theorem andThen_refused {α β : Type} (r : Refusal) (k : α → Host.Outcome β Fault Refusal) :
    andThen (.refused r) k = .refused r := rfl

/-- A sequence answers a next value exactly if its first part does and the rest does after it. -/
theorem andThen_eq_next {α β : Type} {x : Host.Outcome α Fault Refusal} {k : α → Host.Outcome β Fault Refusal}
    {b : β} : andThen x k = .next b ↔ ∃ a, x = .next a ∧ k a = .next b := by
  cases x with
  | next a => simp
  | fault r => cases r
  | refused r => simp

/-! ### Memory accesses -/

/-- Two states with the same memory read the same everywhere. -/
theorem State.peek_congr {s t : State} (h : t.mem = s.mem) (a : Addr) : t.peek a = s.peek a := by
  rw [State.peek, State.peek, h]

@[simp] theorem State.kindAt_congr {s t : State} (h : t.cfg = s.cfg) (a : Addr) : t.kindAt a = s.kindAt a := by
  rw [State.kindAt, State.kindAt, h]

theorem State.memRead_stored {s : State} {a : Addr} (h : s.stored a) : s.memRead a = (s.peek a, s) := by
  rcases h with h | h <;> simp [State.memRead, h]

theorem State.memRead_device {s : State} {a : Addr} (h : s.kindAt a = .device) :
    s.memRead a = (s.emit (.deviceRead a)).drawMemRead := by
  simp [State.memRead, h]

theorem State.memRead_absent {s : State} {a : Addr} (h : s.kindAt a = .absent) :
    s.memRead a = s.drawMemRead := by
  simp [State.memRead, h]

theorem State.memWrite_ram {s : State} {a : Addr} (h : s.kindAt a = .ram) (v : Byte) :
    s.memWrite a v = { s with mem := s.mem.write a.toNat v } := by
  simp [State.memWrite, h]

theorem State.memWrite_device {s : State} {a : Addr} (h : s.kindAt a = .device) (v : Byte) :
    s.memWrite a v = s.emit (.deviceWrite a v) := by
  simp [State.memWrite, h]

theorem State.memWrite_dropped {s : State} {a : Addr} (h : s.kindAt a = .rom ∨ s.kindAt a = .absent) (v : Byte) :
    s.memWrite a v = s := by
  rcases h with h | h <;> simp [State.memWrite, h]

/-- A write to RAM is read back; one to anything else changes no cell. -/
theorem State.peek_memWrite_same (s : State) (a : Addr) (v : Byte) :
    (s.memWrite a v).peek a = if s.kindAt a = .ram then v else s.peek a := by
  cases h : s.kindAt a <;> simp [State.memWrite, State.peek, h]

theorem State.peek_memWrite_other (s : State) {a b : Addr} (v : Byte) (h : b ≠ a) :
    (s.memWrite a v).peek b = s.peek b := by
  have hn : b.toNat ≠ a.toNat := fun e => h (BitVec.eq_of_toNat_eq e)
  cases hk : s.kindAt a <;> simp [State.memWrite, State.peek, hk, Memory.read_write_other, hn]

/-- Every write keeps the canonical form of memory. -/
theorem State.memWrite_wf {s : State} (h : s.mem.wf = true) (a : Addr) (v : Byte) :
    (s.memWrite a v).mem.wf = true := by
  cases hk : s.kindAt a
  · rw [State.memWrite_ram hk]
    exact Memory.wf_write h a.isLt v
  all_goals simpa [State.memWrite, hk] using h

/-! ### Effective addresses -/

@[simp] theorem State.resolve_direct (s : State) (p : Addr) : s.resolve false p = (p, s) := rfl

@[simp] theorem State.resolve_indirect (s : State) (p : Addr) : s.resolve true p = s.readPtr p := rfl

/-- A pointer in stored memory (20_memory.md R70). -/
theorem State.readPtr_stored {s : State} {p : Addr} (h0 : s.stored p) (h1 : s.stored (inpage p 1)) :
    s.readPtr p = ((s.peek p).extractLsb' 0 7 ++ s.peek (inpage p 1), s) := by
  rw [State.readPtr_eq, State.memRead_stored h0, State.memRead_stored h1]

/-- An index addition either stays in the page of the base or, with INDEX_WRAP = refuse, is refused (R69). -/
theorem State.addIndex_next {s : State} {base ea : Addr} {x : Byte} (h : s.addIndex base x = .next ea) :
    ea = inpage base (x.setWidth 13) ∧ ¬ (s.cfg.indexWrap = .refuse ∧ (off base).toNat + x.toNat > 8191) := by
  unfold State.addIndex at h
  split at h
  · cases h
  · next hn =>
    cases h
    exact ⟨rfl, hn⟩

theorem State.addIndex_fits {s : State} {base : Addr} {x : Byte}
    (h : ¬ (s.cfg.indexWrap = .refuse ∧ (off base).toNat + x.toNat > 8191)) :
    s.addIndex base x = .next (inpage base (x.setWidth 13)) := by
  simp only [State.addIndex, if_neg h]

theorem State.addIndex_crosses {s : State} {base : Addr} {x : Byte}
    (h : s.cfg.indexWrap = .refuse ∧ (off base).toNat + x.toNat > 8191) :
    s.addIndex base x = .refused .indexCrossesPage := by
  simp only [State.addIndex, if_pos h]

/-- The base address of a format A instruction, and the state after it is formed: the index register stepped, a pointer
read (R105, R106). -/
def State.baseA (s : State) (r : Reg) (i : Bool) (x : IndexCtl) (a : Offset) : Addr × State :=
  (s.stepIndex r x).resolve i (s.addrA a)

@[simp] theorem State.addrA_stepIndex (s : State) (r : Reg) (x : IndexCtl) (a : Offset) :
    (s.stepIndex r x).addrA a = s.addrA a := by
  rw [State.addrA, State.addrA, State.stepIndex_pc]

theorem State.eaA_none (s : State) (r : Reg) (i : Bool) (a : Offset) :
    s.eaA r i .none a = .next ((s.baseA r i .none a).1, r, (s.baseA r i .none a).2) := rfl

theorem State.eaA_indexed (s : State) (r : Reg) (i : Bool) {x : IndexCtl} (a : Offset) (h : x ≠ .none) :
    s.eaA r i x a =
      andThen ((s.baseA r i x a).2.addIndex (s.baseA r i x a).1 ((s.baseA r i x a).2.getReg r)) fun ea =>
        .next (ea, .r0, (s.baseA r i x a).2) := by
  unfold State.baseA
  rw [← State.addrA_stepIndex s r x a]
  cases x
  · exact absurd rfl h
  all_goals rfl

/-- Everything `EA_A` can do (R105, R106). -/
theorem State.eaA_next {s : State} {r : Reg} {i : Bool} {x : IndexCtl} {a : Offset} {ea : Addr} {opr : Reg}
    {s1 : State} (h : s.eaA r i x a = .next (ea, opr, s1)) :
    s1 = (s.baseA r i x a).2 ∧ opr = (if x = .none then r else .r0) := by
  by_cases hx : x = .none
  · subst hx
    rw [State.eaA_none] at h
    have h' := Host.Outcome.next.inj h
    exact ⟨(congrArg (·.2.2) h').symm, (congrArg (·.2.1) h').symm⟩
  · rw [State.eaA_indexed s r i a hx] at h
    obtain ⟨e, -, he⟩ := andThen_eq_next.1 h
    have h' := Host.Outcome.next.inj he
    exact ⟨(congrArg (·.2.2) h').symm, by rw [if_neg hx]; exact (congrArg (·.2.1) h').symm⟩

/-- Everything `EA_X` can do (R109). -/
theorem State.eaX_next {s : State} {i : Bool} {a ea : Addr} {s1 : State} (h : s.eaX i a = .next (ea, s1)) :
    s1 = (s.eaB i a).2 ∧ ea = inpage (s.eaB i a).1 ((s1.getReg .r3).setWidth 13) := by
  obtain ⟨e, he, hx⟩ := andThen_eq_next.1 h
  obtain ⟨rfl, rfl⟩ := Prod.mk.inj (Host.Outcome.next.inj hx)
  exact ⟨rfl, (State.addIndex_next he).1⟩

/-! ### Operand and branch forms, as what they end in -/

theorem formR_eq (f : Reg → Byte → State → State) (r : Reg) (i : Bool) (d : Disp) (s : State) :
    formR f r i d s =
      .next ((f r ((s.eaR i d).2.memRead (s.eaR i d).1).1 ((s.eaR i d).2.memRead (s.eaR i d).1).2).retire 2
        (3 + indCycles i)) := rfl

/-- If a format A instruction answers a next state, it comes from the operand at an effective address `EA_A` gives. -/
theorem formA_next {f : Reg → Byte → State → State} {r : Reg} {i : Bool} {x : IndexCtl} {a : Offset} {s t : State}
    (h : formA f r i x a s = .next t) :
    ∃ ea opr s1, s.eaA r i x a = .next (ea, opr, s1) ∧
      t = (f opr (s1.memRead ea).1 (s1.memRead ea).2).retire 3 (4 + indCycles i) := by
  obtain ⟨⟨ea, opr, s1⟩, h1, h2⟩ := andThen_eq_next.1 h
  exact ⟨ea, opr, s1, h1, (Host.Outcome.next.inj h2).symm⟩

theorem branchR_eq (taken i : Bool) (d : Disp) (s : State) :
    branchR taken i d s =
      .next (if taken then (s.eaR i d).2.jump (s.eaR i d).1 (3 + indCycles i) else s.retire 2 3) := by
  cases taken <;> rfl

theorem branchB_eq (taken i : Bool) (a : Addr) (s : State) :
    branchB taken i a s =
      .next (if taken then (s.eaB i a).2.jump (s.eaB i a).1 (3 + indCycles i) else s.retire 3 3) := by
  cases taken <;> rfl

theorem callR_eq (taken i : Bool) (d : Disp) (s : State) :
    callR taken i d s =
      .next (if taken then (s.eaR i d).2.call 2 (s.eaR i d).1 (3 + indCycles i) else s.retire 2 3) := by
  cases taken <;> rfl

theorem callB_eq (taken i : Bool) (a : Addr) (s : State) :
    callB taken i a s =
      .next (if taken then (s.eaB i a).2.call 3 (s.eaB i a).1 (3 + indCycles i) else s.retire 3 3) := by
  cases taken <;> rfl

/-! ### Stack, interrupt, reset -/

/-- SP of a state after a push and after a pop (10_state.md R48, R49). -/
@[simp] theorem State.push_sp (s : State) (a : Addr) : (s.push a).sp = s.sp + 1 := by
  simp [State.sp]

@[simp] theorem State.pop_sp (s : State) : s.pop.2.sp = s.sp - 1 := by
  simp [State.sp]

/-- The entry just pushed is the one a pop takes (R48, R49). -/
theorem State.pop_push (s : State) (a : Addr) : (s.push a).pop.1 = a := by
  simp [State.pop_fst, State.push_sp]

/-- Accepting an interrupt, as the operations it is made of (60_exceptions.md R276). -/
theorem State.takeInterrupt_eq (s : State) :
    s.takeInterrupt =
      let s1 := ((s.setWaiting false).setII true).emit .intAck
      let vb := s1.drawIntVector.1
      let e := s1.drawIntVector.2.eaZ0 (indBit vb) (disp7 vb)
      ((e.2.push e.2.pc).fresh.2).jump e.1 (Config.freeAcceptCycles (e.2.push e.2.pc).draws) := rfl

theorem State.returnEnabling_eq (s : State) (cyc : Nat) :
    s.returnEnabling cyc = (s.pop.2.setII false).jump s.pop.1 cyc := rfl

/-- A reset event with the values the model names gives the registers of the state after reset (R301, log entry 2). -/
theorem State.resetEvent_zero (s : State) :
    s.resetEvent ResetValues.zero =
      { State.reset with
        mem := s.mem, env := s.env, cycles := s.cycles, draws := s.draws, cfg := s.cfg
        trace := (s.setWaiting false).trace ++ [.flagPin false] } := by
  have h : s.setWaiting false = { s with waiting := false, trace := (s.setWaiting false).trace } := by
    unfold State.setWaiting
    split
    · next hw => rw [← hw]
    · rfl
  unfold State.resetEvent
  rw [h]
  rfl

end Sys2Proof.Machine
end

