-- ==== Sys2Proof/Laws/PerInstr.lean ====
section
/-! SUPPORT. Families of statements about every instruction as syntax, one lemma a constructor. -/

namespace Sys2Proof.Laws

/-- The encoding of an instruction has the length that R93 reads from its first byte; the undefined rows, for whose bytes
R93 defines no length, are one byte that R93 leaves out. -/
def Length.Statement (i : Instr) : Prop :=
  i.wellFormed = true →
    ∃ b0 rest, encode i = b0 :: rest ∧
      (lengthOf b0 = some (encode i).length ∨ lengthOf b0 = none ∧ rest = [] ∧ b0 ∈ undefinedBytes)

theorem Length.ldpl (i : Bool) (a : Addr) : Length.Statement (.ldpl i a) :=
  fun _ => ⟨_, _, rfl, .inl rfl⟩

theorem Length.stpl (i : Bool) (a : Addr) : Length.Statement (.stpl i a) :=
  fun _ => ⟨_, _, rfl, .inl rfl⟩

theorem Length.spsu : Length.Statement .spsu :=
  fun _ => ⟨_, _, rfl, .inl rfl⟩

theorem Length.spsl : Length.Statement .spsl :=
  fun _ => ⟨_, _, rfl, .inl rfl⟩

theorem Length.halt : Length.Statement .halt :=
  fun _ => ⟨_, _, rfl, .inl rfl⟩

theorem Length.cpsu (m : Byte) : Length.Statement (.cpsu m) :=
  fun _ => ⟨_, _, rfl, .inl rfl⟩

theorem Length.cpsl (m : Byte) : Length.Statement (.cpsl m) :=
  fun _ => ⟨_, _, rfl, .inl rfl⟩

theorem Length.ppsu (m : Byte) : Length.Statement (.ppsu m) :=
  fun _ => ⟨_, _, rfl, .inl rfl⟩

theorem Length.ppsl (m : Byte) : Length.Statement (.ppsl m) :=
  fun _ => ⟨_, _, rfl, .inl rfl⟩

theorem Length.lpsu : Length.Statement .lpsu :=
  fun _ => ⟨_, _, rfl, .inl rfl⟩

theorem Length.lpsl : Length.Statement .lpsl :=
  fun _ => ⟨_, _, rfl, .inl rfl⟩

theorem Length.zbrr (i : Bool) (d : Disp) : Length.Statement (.zbrr i d) :=
  fun _ => ⟨_, _, rfl, .inl rfl⟩

theorem Length.bxa (i : Bool) (a : Addr) : Length.Statement (.bxa i a) :=
  fun _ => ⟨_, _, rfl, .inl rfl⟩

theorem Length.tpsu (m : Byte) : Length.Statement (.tpsu m) :=
  fun _ => ⟨_, _, rfl, .inl rfl⟩

theorem Length.tpsl (m : Byte) : Length.Statement (.tpsl m) :=
  fun _ => ⟨_, _, rfl, .inl rfl⟩

theorem Length.zbsr (i : Bool) (d : Disp) : Length.Statement (.zbsr i d) :=
  fun _ => ⟨_, _, rfl, .inl rfl⟩

theorem Length.bsxa (i : Bool) (a : Addr) : Length.Statement (.bsxa i a) :=
  fun _ => ⟨_, _, rfl, .inl rfl⟩

theorem Length.nop : Length.Statement .nop :=
  fun _ => ⟨_, _, rfl, .inl rfl⟩

theorem Length.undef00 : Length.Statement .undef00 :=
  fun _ => ⟨_, _, rfl, .inr (by decide)⟩

theorem Length.undef90 : Length.Statement .undef90 :=
  fun _ => ⟨_, _, rfl, .inr (by decide)⟩

theorem Length.undef91 : Length.Statement .undef91 :=
  fun _ => ⟨_, _, rfl, .inr (by decide)⟩

theorem Length.undefB6 : Length.Statement .undefB6 :=
  fun _ => ⟨_, _, rfl, .inr (by decide)⟩

theorem Length.undefB7 : Length.Statement .undefB7 :=
  fun _ => ⟨_, _, rfl, .inr (by decide)⟩

theorem Length.undefC4 : Length.Statement .undefC4 :=
  fun _ => ⟨_, _, rfl, .inr (by decide)⟩

theorem Length.undefC5 : Length.Statement .undefC5 :=
  fun _ => ⟨_, _, rfl, .inr (by decide)⟩

theorem Length.undefC6 : Length.Statement .undefC6 :=
  fun _ => ⟨_, _, rfl, .inr (by decide)⟩

theorem Length.undefC7 : Length.Statement .undefC7 :=
  fun _ => ⟨_, _, rfl, .inr (by decide)⟩

theorem Length.lodz (r : Reg) : Length.Statement (.lodz r) := by
  cases r
  case r0 => exact fun h => absurd h (by decide)
  all_goals exact fun _ => ⟨_, _, rfl, .inl rfl⟩

theorem Length.lodi (r : Reg) (v : Byte) : Length.Statement (.lodi r v) := by
  cases r <;> exact fun _ => ⟨_, _, rfl, .inl rfl⟩

theorem Length.lodr (r : Reg) (i : Bool) (d : Disp) : Length.Statement (.lodr r i d) := by
  cases r <;> exact fun _ => ⟨_, _, rfl, .inl rfl⟩

theorem Length.loda (r : Reg) (i : Bool) (x : IndexCtl) (a : Offset) : Length.Statement (.loda r i x a) := by
  cases r <;> exact fun _ => ⟨_, _, rfl, .inl rfl⟩

theorem Length.retc (v : Cond) : Length.Statement (.retc v) := by
  cases v <;> exact fun _ => ⟨_, _, rfl, .inl rfl⟩

theorem Length.bctr (v : Cond) (i : Bool) (d : Disp) : Length.Statement (.bctr v i d) := by
  cases v <;> exact fun _ => ⟨_, _, rfl, .inl rfl⟩

theorem Length.bcta (v : Cond) (i : Bool) (a : Addr) : Length.Statement (.bcta v i a) := by
  cases v <;> exact fun _ => ⟨_, _, rfl, .inl rfl⟩

theorem Length.eorz (r : Reg) : Length.Statement (.eorz r) := by
  cases r <;> exact fun _ => ⟨_, _, rfl, .inl rfl⟩

theorem Length.eori (r : Reg) (v : Byte) : Length.Statement (.eori r v) := by
  cases r <;> exact fun _ => ⟨_, _, rfl, .inl rfl⟩

theorem Length.eorr (r : Reg) (i : Bool) (d : Disp) : Length.Statement (.eorr r i d) := by
  cases r <;> exact fun _ => ⟨_, _, rfl, .inl rfl⟩

theorem Length.eora (r : Reg) (i : Bool) (x : IndexCtl) (a : Offset) : Length.Statement (.eora r i x a) := by
  cases r <;> exact fun _ => ⟨_, _, rfl, .inl rfl⟩

theorem Length.redc (r : Reg) : Length.Statement (.redc r) := by
  cases r <;> exact fun _ => ⟨_, _, rfl, .inl rfl⟩

theorem Length.rete (v : Cond) : Length.Statement (.rete v) := by
  cases v <;> exact fun _ => ⟨_, _, rfl, .inl rfl⟩

theorem Length.bstr (v : Cond) (i : Bool) (d : Disp) : Length.Statement (.bstr v i d) := by
  cases v <;> exact fun _ => ⟨_, _, rfl, .inl rfl⟩

theorem Length.bsta (v : Cond) (i : Bool) (a : Addr) : Length.Statement (.bsta v i a) := by
  cases v <;> exact fun _ => ⟨_, _, rfl, .inl rfl⟩

theorem Length.andz (r : Reg) : Length.Statement (.andz r) := by
  cases r
  case r0 => exact fun h => absurd h (by decide)
  all_goals exact fun _ => ⟨_, _, rfl, .inl rfl⟩

theorem Length.andi (r : Reg) (v : Byte) : Length.Statement (.andi r v) := by
  cases r <;> exact fun _ => ⟨_, _, rfl, .inl rfl⟩

theorem Length.andr (r : Reg) (i : Bool) (d : Disp) : Length.Statement (.andr r i d) := by
  cases r <;> exact fun _ => ⟨_, _, rfl, .inl rfl⟩

theorem Length.anda (r : Reg) (i : Bool) (x : IndexCtl) (a : Offset) : Length.Statement (.anda r i x a) := by
  cases r <;> exact fun _ => ⟨_, _, rfl, .inl rfl⟩

theorem Length.rrr (r : Reg) : Length.Statement (.rrr r) := by
  cases r <;> exact fun _ => ⟨_, _, rfl, .inl rfl⟩

theorem Length.rede (r : Reg) (port : Byte) : Length.Statement (.rede r port) := by
  cases r <;> exact fun _ => ⟨_, _, rfl, .inl rfl⟩

theorem Length.brnr (r : Reg) (i : Bool) (d : Disp) : Length.Statement (.brnr r i d) := by
  cases r <;> exact fun _ => ⟨_, _, rfl, .inl rfl⟩

theorem Length.brna (r : Reg) (i : Bool) (a : Addr) : Length.Statement (.brna r i a) := by
  cases r <;> exact fun _ => ⟨_, _, rfl, .inl rfl⟩

theorem Length.iorz (r : Reg) : Length.Statement (.iorz r) := by
  cases r <;> exact fun _ => ⟨_, _, rfl, .inl rfl⟩

theorem Length.iori (r : Reg) (v : Byte) : Length.Statement (.iori r v) := by
  cases r <;> exact fun _ => ⟨_, _, rfl, .inl rfl⟩

theorem Length.iorr (r : Reg) (i : Bool) (d : Disp) : Length.Statement (.iorr r i d) := by
  cases r <;> exact fun _ => ⟨_, _, rfl, .inl rfl⟩

theorem Length.iora (r : Reg) (i : Bool) (x : IndexCtl) (a : Offset) : Length.Statement (.iora r i x a) := by
  cases r <;> exact fun _ => ⟨_, _, rfl, .inl rfl⟩

theorem Length.redd (r : Reg) : Length.Statement (.redd r) := by
  cases r <;> exact fun _ => ⟨_, _, rfl, .inl rfl⟩

theorem Length.bsnr (r : Reg) (i : Bool) (d : Disp) : Length.Statement (.bsnr r i d) := by
  cases r <;> exact fun _ => ⟨_, _, rfl, .inl rfl⟩

theorem Length.bsna (r : Reg) (i : Bool) (a : Addr) : Length.Statement (.bsna r i a) := by
  cases r <;> exact fun _ => ⟨_, _, rfl, .inl rfl⟩

theorem Length.addz (r : Reg) : Length.Statement (.addz r) := by
  cases r <;> exact fun _ => ⟨_, _, rfl, .inl rfl⟩

theorem Length.addi (r : Reg) (v : Byte) : Length.Statement (.addi r v) := by
  cases r <;> exact fun _ => ⟨_, _, rfl, .inl rfl⟩

theorem Length.addr (r : Reg) (i : Bool) (d : Disp) : Length.Statement (.addr r i d) := by
  cases r <;> exact fun _ => ⟨_, _, rfl, .inl rfl⟩

theorem Length.adda (r : Reg) (i : Bool) (x : IndexCtl) (a : Offset) : Length.Statement (.adda r i x a) := by
  cases r <;> exact fun _ => ⟨_, _, rfl, .inl rfl⟩

theorem Length.dar (r : Reg) : Length.Statement (.dar r) := by
  cases r <;> exact fun _ => ⟨_, _, rfl, .inl rfl⟩

theorem Length.bcfr (v : Cond) (i : Bool) (d : Disp) : Length.Statement (.bcfr v i d) := by
  cases v
  case un => exact fun h => absurd h (by simp [Instr.wellFormed])
  all_goals exact fun _ => ⟨_, _, rfl, .inl rfl⟩

theorem Length.bcfa (v : Cond) (i : Bool) (a : Addr) : Length.Statement (.bcfa v i a) := by
  cases v
  case un => exact fun h => absurd h (by simp [Instr.wellFormed])
  all_goals exact fun _ => ⟨_, _, rfl, .inl rfl⟩

theorem Length.subz (r : Reg) : Length.Statement (.subz r) := by
  cases r <;> exact fun _ => ⟨_, _, rfl, .inl rfl⟩

theorem Length.subi (r : Reg) (v : Byte) : Length.Statement (.subi r v) := by
  cases r <;> exact fun _ => ⟨_, _, rfl, .inl rfl⟩

theorem Length.subr (r : Reg) (i : Bool) (d : Disp) : Length.Statement (.subr r i d) := by
  cases r <;> exact fun _ => ⟨_, _, rfl, .inl rfl⟩

theorem Length.suba (r : Reg) (i : Bool) (x : IndexCtl) (a : Offset) : Length.Statement (.suba r i x a) := by
  cases r <;> exact fun _ => ⟨_, _, rfl, .inl rfl⟩

theorem Length.wrtc (r : Reg) : Length.Statement (.wrtc r) := by
  cases r <;> exact fun _ => ⟨_, _, rfl, .inl rfl⟩

theorem Length.bsfr (v : Cond) (i : Bool) (d : Disp) : Length.Statement (.bsfr v i d) := by
  cases v
  case un => exact fun h => absurd h (by simp [Instr.wellFormed])
  all_goals exact fun _ => ⟨_, _, rfl, .inl rfl⟩

theorem Length.bsfa (v : Cond) (i : Bool) (a : Addr) : Length.Statement (.bsfa v i a) := by
  cases v
  case un => exact fun h => absurd h (by simp [Instr.wellFormed])
  all_goals exact fun _ => ⟨_, _, rfl, .inl rfl⟩

theorem Length.strz (r : Reg) : Length.Statement (.strz r) := by
  cases r
  case r0 => exact fun h => absurd h (by decide)
  all_goals exact fun _ => ⟨_, _, rfl, .inl rfl⟩

theorem Length.strr (r : Reg) (i : Bool) (d : Disp) : Length.Statement (.strr r i d) := by
  cases r <;> exact fun _ => ⟨_, _, rfl, .inl rfl⟩

theorem Length.stra (r : Reg) (i : Bool) (x : IndexCtl) (a : Offset) : Length.Statement (.stra r i x a) := by
  cases r <;> exact fun _ => ⟨_, _, rfl, .inl rfl⟩

theorem Length.rrl (r : Reg) : Length.Statement (.rrl r) := by
  cases r <;> exact fun _ => ⟨_, _, rfl, .inl rfl⟩

theorem Length.wrte (r : Reg) (port : Byte) : Length.Statement (.wrte r port) := by
  cases r <;> exact fun _ => ⟨_, _, rfl, .inl rfl⟩

theorem Length.birr (r : Reg) (i : Bool) (d : Disp) : Length.Statement (.birr r i d) := by
  cases r <;> exact fun _ => ⟨_, _, rfl, .inl rfl⟩

theorem Length.bira (r : Reg) (i : Bool) (a : Addr) : Length.Statement (.bira r i a) := by
  cases r <;> exact fun _ => ⟨_, _, rfl, .inl rfl⟩

theorem Length.comz (r : Reg) : Length.Statement (.comz r) := by
  cases r <;> exact fun _ => ⟨_, _, rfl, .inl rfl⟩

theorem Length.comi (r : Reg) (v : Byte) : Length.Statement (.comi r v) := by
  cases r <;> exact fun _ => ⟨_, _, rfl, .inl rfl⟩

theorem Length.comr (r : Reg) (i : Bool) (d : Disp) : Length.Statement (.comr r i d) := by
  cases r <;> exact fun _ => ⟨_, _, rfl, .inl rfl⟩

theorem Length.coma (r : Reg) (i : Bool) (x : IndexCtl) (a : Offset) : Length.Statement (.coma r i x a) := by
  cases r <;> exact fun _ => ⟨_, _, rfl, .inl rfl⟩

theorem Length.wrtd (r : Reg) : Length.Statement (.wrtd r) := by
  cases r <;> exact fun _ => ⟨_, _, rfl, .inl rfl⟩

theorem Length.tmi (r : Reg) (m : Byte) : Length.Statement (.tmi r m) := by
  cases r <;> exact fun _ => ⟨_, _, rfl, .inl rfl⟩

theorem Length.bdrr (r : Reg) (i : Bool) (d : Disp) : Length.Statement (.bdrr r i d) := by
  cases r <;> exact fun _ => ⟨_, _, rfl, .inl rfl⟩

theorem Length.bdra (r : Reg) (i : Bool) (a : Addr) : Length.Statement (.bdra r i a) := by
  cases r <;> exact fun _ => ⟨_, _, rfl, .inl rfl⟩

end Sys2Proof.Laws
end

