-- ==== Sys2Proof/Tests/Slice0.lean ====
section
/-! SUPPORT. Tests: the well-formedness checks refuse, every constructor's word decodes, one step or one meaning on the
spec's own examples, and a witness for the hypotheses of every statement. Expected results are the spec's, from the rule
each comment names. -/

namespace Sys2Proof.Tests

open Sys2Proof.Machine

/-! ### Builders -/

/-- A field of the next state, if there is one. -/
def look {α : Type} (x : Host.Outcome State Fault Refusal) (f : State → α) : Option α :=
  match x with
  | .next t => some (f t)
  | .fault _ => none
  | .refused _ => none

/-- Why there is no next state. -/
def why (x : Host.Outcome State Fault Refusal) : Option Refusal :=
  match x with
  | .refused r => some r
  | .next _ => none
  | .fault _ => none

/-- A state with `pc`, the registers of bank 0 and PSL given, the rest as after reset. -/
def cpu (pc : Addr) (r0 r1 r2 r3 : Byte) (psl : Byte) : State :=
  { State.reset with pc := pc, r0 := r0, bank0 := ⟨r1, r2, r3⟩, psl := Psl.ofByte psl }

/-- The same with memory. -/
def cpuMem (pc : Addr) (r0 r1 r2 r3 : Byte) (psl : Byte) (mem : Memory) : State :=
  { cpu pc r0 r1 r2 r3 psl with mem := mem }

/-- C, IDC, OVF and CC. -/
def flags (t : State) : Bool × Bool × Bool × BitVec 2 := (t.psl.c, t.psl.idc, t.psl.ovf, t.psl.cc)

/-- A machine whose index additions may not leave the page. -/
def refusing (s : State) : State := { s with cfg := { s.cfg with indexWrap := .refuse } }

/-! ### Well-formedness: a term each check refuses, and one it admits -/

theorem test_ill_formed_lodz : (Instr.lodz .r0).wellFormed = false := by decide
theorem test_ill_formed_strz : (Instr.strz .r0).wellFormed = false := by decide
theorem test_ill_formed_andz : (Instr.andz .r0).wellFormed = false := by decide
theorem test_ill_formed_bcfr : (Instr.bcfr .un false 0).wellFormed = false := by decide
theorem test_ill_formed_bcfa : (Instr.bcfa .un false 0).wellFormed = false := by decide
theorem test_ill_formed_bsfr : (Instr.bsfr .un false 0).wellFormed = false := by decide
theorem test_ill_formed_bsfa : (Instr.bsfa .un false 0).wellFormed = false := by decide
theorem test_well_formed : (Instr.lodz .r1).wellFormed = true ∧ (Instr.bcfa .lt true 0).wellFormed = true := by decide

/-! ### Decoding: a word of every constructor, from the encodings of R120 -/

theorem test_decode_load_store :
    decode [0x01] = .ok (.lodz .r1, []) ∧ decode [0x07, 0xF8] = .ok (.lodi .r3 0xF8, []) ∧
    decode [0x0A, 0x85] = .ok (.lodr .r2 true 0x05, []) ∧
    decode [0x0F, 0x21, 0x00] = .ok (.loda .r3 false .inc 0x0100, []) ∧
    decode [0xC3] = .ok (.strz .r3, []) ∧ decode [0xC9, 0x7E] = .ok (.strr .r1 false 0x7E, []) ∧
    decode [0xCE, 0x63, 0x00] = .ok (.stra .r2 false .plain 0x0300, []) :=
  ⟨rfl, rfl, rfl, rfl, rfl, rfl, rfl⟩

theorem test_decode_arithmetic :
    decode [0x80] = .ok (.addz .r0, []) ∧ decode [0x85, 0x01] = .ok (.addi .r1 0x01, []) ∧
    decode [0x89, 0x02] = .ok (.addr .r1 false 0x02, []) ∧
    decode [0x8D, 0x04, 0x00] = .ok (.adda .r1 false .none 0x0400, []) ∧
    decode [0xA2] = .ok (.subz .r2, []) ∧ decode [0xA4, 0x01] = .ok (.subi .r0 0x01, []) ∧
    decode [0xAA, 0x80] = .ok (.subr .r2 true 0x00, []) ∧
    decode [0xAF, 0x44, 0x00] = .ok (.suba .r3 false .dec 0x0400, []) :=
  ⟨rfl, rfl, rfl, rfl, rfl, rfl, rfl, rfl⟩

theorem test_decode_logical :
    decode [0x61] = .ok (.iorz .r1, []) ∧ decode [0x66, 0x80] = .ok (.iori .r2 0x80, []) ∧
    decode [0x68, 0x10] = .ok (.iorr .r0 false 0x10, []) ∧
    decode [0x6D, 0x05, 0x00] = .ok (.iora .r1 false .none 0x0500, []) ∧
    decode [0x23] = .ok (.eorz .r3, []) ∧ decode [0x25, 0xFF] = .ok (.eori .r1 0xFF, []) ∧
    decode [0x2A, 0x7F] = .ok (.eorr .r2 false 0x7F, []) ∧
    decode [0x2C, 0x85, 0x00] = .ok (.eora .r0 true .none 0x0500, []) ∧
    decode [0x42] = .ok (.andz .r2, []) ∧ decode [0x44, 0x0F] = .ok (.andi .r0 0x0F, []) ∧
    decode [0x4B, 0x00] = .ok (.andr .r3 false 0x00, []) ∧
    decode [0x4E, 0x05, 0x00] = .ok (.anda .r2 false .none 0x0500, []) :=
  ⟨rfl, rfl, rfl, rfl, rfl, rfl, rfl, rfl, rfl, rfl, rfl, rfl⟩

theorem test_decode_compare_io :
    decode [0xE1] = .ok (.comz .r1, []) ∧ decode [0xE5, 0x41] = .ok (.comi .r1 0x41, []) ∧
    decode [0xEA, 0x05] = .ok (.comr .r2 false 0x05, []) ∧
    decode [0xEE, 0x44, 0x00] = .ok (.coma .r2 false .dec 0x0400, []) ∧
    decode [0x31] = .ok (.redc .r1, []) ∧ decode [0x70] = .ok (.redd .r0, []) ∧
    decode [0x55, 0x10] = .ok (.rede .r1 0x10, []) ∧ decode [0xB2] = .ok (.wrtc .r2, []) ∧
    decode [0xF3] = .ok (.wrtd .r3, []) ∧ decode [0xD6, 0xFF] = .ok (.wrte .r2 0xFF, []) :=
  ⟨rfl, rfl, rfl, rfl, rfl, rfl, rfl, rfl, rfl, rfl⟩

theorem test_decode_branch :
    decode [0x18, 0x03] = .ok (.bctr .eq false 0x03, []) ∧
    decode [0x1F, 0x20, 0x00] = .ok (.bcta .un false 0x2000, []) ∧
    decode [0x9A, 0x02] = .ok (.bcfr .lt false 0x02, []) ∧
    decode [0x9C, 0x80, 0x40] = .ok (.bcfa .eq true 0x0040, []) ∧
    decode [0x59, 0x7C] = .ok (.brnr .r1 false 0x7C, []) ∧
    decode [0x5C, 0x12, 0x34] = .ok (.brna .r0 false 0x1234, []) ∧
    decode [0xDA, 0x79] = .ok (.birr .r2 false 0x79, []) ∧
    decode [0xDD, 0x02, 0x00] = .ok (.bira .r1 false 0x0200, []) ∧
    decode [0xF9, 0x7E] = .ok (.bdrr .r1 false 0x7E, []) ∧
    decode [0xFF, 0x00, 0x10] = .ok (.bdra .r3 false 0x0010, []) ∧
    decode [0x9F, 0x80, 0x30] = .ok (.bxa true 0x0030, []) ∧
    decode [0x9B, 0x78] = .ok (.zbrr false 0x78, []) :=
  ⟨rfl, rfl, rfl, rfl, rfl, rfl, rfl, rfl, rfl, rfl, rfl, rfl⟩

theorem test_decode_subroutine :
    decode [0x3B, 0x10] = .ok (.bstr .un false 0x10, []) ∧
    decode [0x3F, 0x20, 0x00] = .ok (.bsta .un false 0x2000, []) ∧
    decode [0xB8, 0x7A] = .ok (.bsfr .eq false 0x7A, []) ∧
    decode [0xBE, 0x03, 0x00] = .ok (.bsfa .lt false 0x0300, []) ∧
    decode [0x79, 0x00] = .ok (.bsnr .r1 false 0x00, []) ∧
    decode [0x7C, 0x04, 0x00] = .ok (.bsna .r0 false 0x0400, []) ∧
    decode [0xBF, 0x02, 0x00] = .ok (.bsxa false 0x0200, []) ∧
    decode [0xBB, 0x7C] = .ok (.zbsr false 0x7C, []) ∧
    decode [0x15] = .ok (.retc .gt, []) ∧ decode [0x37] = .ok (.rete .un, []) :=
  ⟨rfl, rfl, rfl, rfl, rfl, rfl, rfl, rfl, rfl, rfl⟩

theorem test_decode_status :
    decode [0x92] = .ok (.lpsu, []) ∧ decode [0x93] = .ok (.lpsl, []) ∧ decode [0x12] = .ok (.spsu, []) ∧
    decode [0x13] = .ok (.spsl, []) ∧ decode [0x74, 0x27] = .ok (.cpsu 0x27, []) ∧
    decode [0x75, 0x08] = .ok (.cpsl 0x08, []) ∧ decode [0x76, 0xFF] = .ok (.ppsu 0xFF, []) ∧
    decode [0x77, 0x10] = .ok (.ppsl 0x10, []) ∧ decode [0xB4, 0x80] = .ok (.tpsu 0x80, []) ∧
    decode [0xB5, 0xC0] = .ok (.tpsl 0xC0, []) ∧ decode [0x10, 0x21, 0x00] = .ok (.ldpl false 0x2100, []) ∧
    decode [0x11, 0x80, 0x80] = .ok (.stpl true 0x0080, []) :=
  ⟨rfl, rfl, rfl, rfl, rfl, rfl, rfl, rfl, rfl, rfl, rfl, rfl⟩

theorem test_decode_misc :
    decode [0xD1] = .ok (.rrl .r1, []) ∧ decode [0x52] = .ok (.rrr .r2, []) ∧ decode [0xC0] = .ok (.nop, []) ∧
    decode [0x40] = .ok (.halt, []) ∧ decode [0xF5, 0x81] = .ok (.tmi .r1 0x81, []) ∧
    decode [0x96] = .ok (.dar .r2, []) :=
  ⟨rfl, rfl, rfl, rfl, rfl, rfl⟩

theorem test_decode_undefined :
    decode [0x00] = .ok (.undef00, []) ∧ decode [0x90] = .ok (.undef90, []) ∧ decode [0x91] = .ok (.undef91, []) ∧
    decode [0xB6] = .ok (.undefB6, []) ∧ decode [0xB7] = .ok (.undefB7, []) ∧ decode [0xC4] = .ok (.undefC4, []) ∧
    decode [0xC5] = .ok (.undefC5, []) ∧ decode [0xC6] = .ok (.undefC6, []) ∧ decode [0xC7] = .ok (.undefC7, []) :=
  ⟨rfl, rfl, rfl, rfl, rfl, rfl, rfl, rfl, rfl⟩

theorem test_decode_truncated :
    decode [] = .error .truncated ∧ decode [0x04] = .error .truncated ∧ decode [0x0C, 0x00] = .error .truncated :=
  ⟨rfl, rfl, rfl⟩

theorem test_table_word : decodeTableWord 24 0x00210F = some (.loda .r3 false .inc 0x0100) := by decide
theorem test_table_word_short : decodeTableWord 8 0x04 = some (.lodi .r0 0x00) := by decide

/-! ### Load and store (R141 to R147) -/

theorem test_lodz : look (exec (.lodz .r2) (cpu 0 0 0 0x80 0 0)) (fun t => (t.r0, t.psl.cc)) = some (0x80, 0b10) := by
  decide
theorem test_lodi : look (exec (.lodi .r2 0xF8) (cpu 0 0 0 0 0 0)) (fun t => (t.getReg .r2, t.psl.cc)) =
    some (0xF8, 0b10) := by decide
theorem test_lodr : look (exec (.lodr .r2 true 5) (cpuMem 0x0010 0 0 0 0 0 [(0x17, 0x01), (0x18, 0x28), (0x128, 0x67)]))
    (fun t => (t.getReg .r2, t.pc, t.cycles)) = some (0x67, 0x0012, 5) := by decide
theorem test_lodr_page_end : look (exec (.lodr .r2 false 14) (cpuMem 0x1FFC 0 0 0 0 0 [(0x0C, 0x55)]))
    (fun t => (t.getReg .r2, t.pc)) = some (0x55, 0x1FFE) := by decide
theorem test_loda_increment : look (exec (.loda .r3 false .inc 0x0100) (cpuMem 0 0 0 0 0xFF 0 [(0x100, 0xAA)]))
    (fun t => (t.r0, t.getReg .r3, t.psl.cc)) = some (0xAA, 0x00, 0b10) := by decide
theorem test_strz : look (exec (.strz .r1) (cpu 0 0 7 0 0 0x40)) (fun t => (t.getReg .r1, t.psl.cc)) = some (0, 0) := by
  decide
theorem test_strr_over_itself : look (exec (.strr .r1 false 0x7E) (cpuMem 0x0100 0 0x5A 0 0 0 [(0x100, 0xC9)]))
    (fun t => (t.peek 0x0100, t.psl.cc)) = some (0x5A, 0) := by decide
theorem test_stra_indexed : look (exec (.stra .r2 false .plain 0x0300) (cpu 0 0x99 0 0x05 0 0))
    (fun t => (t.peek 0x0305, t.peek 0x0300)) = some (0x99, 0) := by decide
theorem test_stra_zero_keeps_form : look (exec (.stra .r1 false .none 0x0300) (cpuMem 0 0 0 0 0 0 [(0x300, 7)]))
    (fun t => t.mem) = some [] := by decide

/-! ### Arithmetic, logic, compare (R155 to R162, R166 to R177, R221 to R224) -/

theorem test_addz : look (exec (.addz .r1) (cpu 0 0x7C 0x40 0 0 0)) (fun t => (t.r0, flags t)) =
    some (0xBC, false, false, true, 0b10) := by decide
theorem test_addi_carry_in : look (exec (.addi .r0 0) (cpu 0 0x0F 0 0 0 0x09)) (fun t => (t.r0, flags t)) =
    some (0x10, false, true, false, 0b01) := by decide
theorem test_addr : look (exec (.addr .r1 false 2) (cpuMem 0x0200 0 1 0 0 0 [(0x204, 2)])) (fun t => (t.getReg .r1, flags t)) =
    some (3, false, false, false, 0b01) := by decide
theorem test_adda : look (exec (.adda .r1 false .none 0x0400) (cpuMem 0 0 0x10 0 0 0 [(0x400, 0xF0)]))
    (fun t => (t.getReg .r1, flags t)) = some (0, true, false, false, 0) := by decide
theorem test_subz_borrow : look (exec (.subz .r0) (cpu 0 0x5A 0 0 0 0x08)) (fun t => (t.r0, flags t)) =
    some (0xFF, false, false, false, 0b10) := by decide
theorem test_subi_overflow : look (exec (.subi .r0 1) (cpu 0 0x80 0 0 0 0)) (fun t => (t.r0, flags t)) =
    some (0x7F, true, false, true, 0b01) := by decide
theorem test_subr : look (exec (.subr .r2 false 0) (cpuMem 0x0200 0 0 0x42 0 0 [(0x202, 0x17)]))
    (fun t => (t.getReg .r2, flags t)) = some (0x2B, true, false, false, 0b01) := by decide
theorem test_suba : look (exec (.suba .r3 false .plain 0x0400) (cpuMem 0 5 0 0 2 0 [(0x402, 5)]))
    (fun t => (t.r0, flags t)) = some (0, true, true, false, 0) := by decide
theorem test_iorz : look (exec (.iorz .r1) (cpu 0 0x0F 0xF0 0 0 0)) (fun t => (t.r0, t.psl.cc)) = some (0xFF, 0b10) := by
  decide
theorem test_iora : look (exec (.iora .r1 false .none 0x0500) (cpuMem 0 0 0x21 0 0 0 [(0x500, 0x42)]))
    (fun t => (t.getReg .r1, t.psl.cc)) = some (0x63, 0b01) := by decide
theorem test_eorr : look (exec (.eorr .r2 false 0x7F) (cpuMem 0x0300 0 0 0x3C 0 0 [(0x301, 0x7F)]))
    (fun t => (t.getReg .r2, t.psl.cc)) = some (0x43, 0b01) := by decide
theorem test_eora_other_page : look (exec (.eora .r0 true .none 0x0500)
    (cpuMem 0 0xFF 0 0 0 0 [(0x500, 0x21), (0x2100, 0xFF)])) (fun t => (t.r0, t.psl.cc, t.pc)) = some (0, 0, 3) := by decide
theorem test_andz : look (exec (.andz .r2) (cpu 0 0xF0 0 0x3C 0 0)) (fun t => (t.r0, t.psl.cc)) = some (0x30, 0b01) := by
  decide
theorem test_anda : look (exec (.anda .r2 false .none 0x0500) (cpuMem 0 3 0 0xFF 0 0 [])) (fun t => (t.getReg .r2, t.r0)) =
    some (0, 3) := by decide
theorem test_comz_arithmetic : look (exec (.comz .r1) (cpu 0 0x80 1 0 0 0)) (·.psl.cc) = some 0b10 := by decide
theorem test_comz_logical : look (exec (.comz .r1) (cpu 0 0x80 1 0 0 0x02)) (·.psl.cc) = some 0b01 := by decide
theorem test_comi : look (exec (.comi .r0 0xFF) (cpu 0 0 0 0 0 0)) (·.psl.cc) = some 0b01 := by decide
theorem test_coma_decrement : look (exec (.coma .r2 false .dec 0x0400) (cpuMem 0 0x33 0 1 0 0x40 [(0x400, 0x33)]))
    (fun t => (t.getReg .r2, t.psl.cc)) = some (0, 0) := by decide

/-! ### Branches (R181 to R192) -/

theorem test_bctr : look (exec (.bctr .eq false 3) (cpu 0x0010 0 0 0 0 0)) (·.pc) = some 0x0015 := by decide
theorem test_bctr_loop : look (exec (.bctr .un false 0x7E) (cpu 0x0040 0 0 0 0 0)) (·.pc) = some 0x0040 := by decide
theorem test_bcta_page : look (exec (.bcta .un false 0x2000) (cpu 0x0010 0 0 0 0 0)) (·.pc) = some 0x2000 := by decide
theorem test_bcfr : look (exec (.bcfr .lt false 2) (cpu 0x0107 0 0 0 0 0x40)) (·.pc) = some 0x010B := by decide
theorem test_bcfa_indirect : look (exec (.bcfa .eq true 0x0040) (cpuMem 0x0010 0 0 0 0 0x80 [(0x40, 0x41)]))
    (fun t => (t.pc, t.cycles)) = some (0x4100, 5) := by decide
theorem test_bcfa_not_taken : look (exec (.bcfa .eq true 0x0040) (cpu 0x0010 0 0 0 0 0)) (fun t => (t.pc, t.cycles)) =
    some (0x0013, 3) := by decide
theorem test_brnr : look (exec (.brnr .r1 false 0x7C) (cpu 0x0020 0 1 0 0 0)) (·.pc) = some 0x001E := by decide
theorem test_brna : look (exec (.brna .r0 false 0x1234) (cpu 0x0020 0x80 0 0 0 0)) (·.pc) = some 0x1234 := by decide
theorem test_birr : look (exec (.birr .r2 false 0x79) (cpu 0x010C 0 0 0xF8 0 0)) (fun t => (t.getReg .r2, t.pc)) =
    some (0xF9, 0x0107) := by decide
theorem test_birr_wraps : look (exec (.birr .r2 false 0x79) (cpu 0x010C 0 0 0xFF 0 0x40))
    (fun t => (t.getReg .r2, t.pc, t.psl.cc)) = some (0, 0x010E, 0b01) := by decide
theorem test_bira : look (exec (.bira .r1 false 0x0200) (cpu 0x0010 0 0xFE 0 0 0)) (fun t => (t.getReg .r1, t.pc)) =
    some (0xFF, 0x0200) := by decide
theorem test_bdrr : look (exec (.bdrr .r1 false 0x7E) (cpu 0x0050 0 3 0 0 0)) (fun t => (t.getReg .r1, t.pc)) =
    some (2, 0x0050) := by decide
theorem test_bdra : look (exec (.bdra .r3 false 0x0010) (cpu 0x0050 0 0 0 1 0)) (fun t => (t.getReg .r3, t.pc)) =
    some (0, 0x0053) := by decide
theorem test_bxa_indirect : look (exec (.bxa true 0x0030) (cpuMem 0 0 0 0 4 0 [(0x30, 0x20), (0x31, 0x10)])) (·.pc) =
    some 0x2014 := by decide
theorem test_zbrr_back : look (exec (.zbrr false 0x78) (cpu 0x6000 0 0 0 0 0)) (·.pc) = some 0x1FF8 := by decide
theorem test_zbrr_indirect : look (exec (.zbrr true 5) (cpuMem 0x2000 0 0 0 0 0 [(5, 0x60)])) (·.pc) = some 0x6000 := by
  decide

/-! ### Subroutines (R201 to R210) -/

theorem test_bstr : look (exec (.bstr .un false 0x10) (cpu 0x0040 0 0 0 0 0)) (fun t => (t.pc, t.sp, t.entry 1)) =
    some (0x0052, 1, 0x0042) := by decide
theorem test_bsta_page_end : look (exec (.bsta .un false 0x2000) { cpu 0x1FFE 0 0 0 0 0 with psu := 7 })
    (fun t => (t.pc, t.sp, t.entry 0)) = some (0x2000, 0, 0x0001) := by decide
theorem test_bsfr : look (exec (.bsfr .eq false 0x7A) { cpu 0x0040 0 0 0 0 0x40 with psu := 2 })
    (fun t => (t.pc, t.sp, t.entry 3)) = some (0x003C, 3, 0x0042) := by decide
theorem test_bsfa : look (exec (.bsfa .lt false 0x0300) (cpu 0x0100 0 0 0 0 0)) (fun t => (t.pc, t.entry 1)) =
    some (0x0300, 0x0103) := by decide
theorem test_bsnr : look (exec (.bsnr .r1 false 0) (cpu 0x0040 0 1 0 0 0)) (fun t => (t.pc, t.sp)) = some (0x0042, 1) := by
  decide
theorem test_bsna_not_taken : look (exec (.bsna .r0 false 0x0400) (cpu 0x0100 0 0 0 0 0)) (fun t => (t.pc, t.sp)) =
    some (0x0103, 0) := by decide
theorem test_bsxa : look (exec (.bsxa false 0x0200) (cpu 0x0100 0 0 0 9 0)) (fun t => (t.pc, t.entry 1)) =
    some (0x0209, 0x0103) := by decide
theorem test_zbsr : look (exec (.zbsr false 0x7C) (cpu 0x2100 0 0 0 0 0)) (fun t => (t.pc, t.entry 1)) =
    some (0x1FFC, 0x2102) := by decide

/-- A state with one stack entry. -/
def stacked (psu : Byte) (k : Fin 8) (a : Addr) (psl : Byte) : State :=
  { cpu 0x0300 0 0 0 0 psl with psu := psu, ras := State.reset.ras.set k.val a k.isLt }

theorem test_retc : look (exec (.retc .un) (stacked 1 1 0x0042 0)) (fun t => (t.pc, t.sp)) = some (0x0042, 0) := by decide
theorem test_retc_not_taken : look (exec (.retc .eq) (stacked 1 1 0x0042 0x40)) (fun t => (t.pc, t.sp)) =
    some (0x0301, 1) := by decide
theorem test_rete : look (exec (.rete .un) (stacked 0x23 3 0x0207 0)) (fun t => (t.pc, t.sp, t.ii)) =
    some (0x0207, 2, false) := by decide

/-! ### Input and output, status word, the rest (R231 to R252, R260 to R265) -/

theorem test_redc : look (exec (.redc .r1) { cpu 0 0 0 0 0 0 with env := { Env.silent with ioReads := [0x80] } })
    (fun t => (t.getReg .r1, t.psl.cc, t.trace)) = some (0x80, 0b10, [.ioRead .ctrl]) := by decide
theorem test_redd : look (exec (.redd .r0) { cpu 0 1 0 0 0 0x40 with env := { Env.silent with ioReads := [0] } })
    (fun t => (t.r0, t.psl.cc)) = some (0, 0) := by decide
theorem test_rede : look (exec (.rede .r1 0x10) { cpu 0 0 0 0 0 0 with env := { Env.silent with ioReads := [0x7F] } })
    (fun t => (t.getReg .r1, t.psl.cc, t.trace)) = some (0x7F, 0b01, [.ioRead (.ext 0x10)]) := by decide
theorem test_wrtc : look (exec (.wrtc .r0) (cpu 0 0x5A 0 0 0 0)) (·.trace) = some [.ioWrite .ctrl 0x5A] := by decide
theorem test_wrtd : look (exec (.wrtd .r3) (cpu 0 0 0 0 1 0)) (·.trace) = some [.ioWrite .data 1] := by decide
theorem test_wrte : look (exec (.wrte .r2 0xFF) (cpu 0 0 0 0xAA 0 0)) (·.trace) = some [.ioWrite (.ext 0xFF) 0xAA] := by
  decide
theorem test_lpsu : look (exec .lpsu (cpu 0 0xFF 0 0 0 0)) (fun t => (t.psu, t.trace)) = some (0x67, [.flagPin true]) := by
  decide
theorem test_lpsl : look (exec .lpsl (cpu 0 0xCA 0 0 0 0)) (fun t => (t.psl.cc, t.psl.wc, t.psl.com, t.psl.c)) =
    some (0b11, true, true, false) := by decide
theorem test_spsu : look (exec .spsu { cpu 0 0 0 0 0 0 with psu := 0x43, env := { Env.silent with senses := [true] } })
    (fun t => (t.r0, t.psl.cc)) = some (0xC3, 0b10) := by decide
theorem test_spsl : look (exec .spsl (cpu 0 0 0 0 0 0x09)) (fun t => (t.r0, t.psl.toByte)) = some (0x09, 0x49) := by decide
theorem test_cpsu : look (exec (.cpsu 0x27) { cpu 0 0 0 0 0 0 with psu := 0x67 }) (·.psu) = some 0x40 := by decide
theorem test_cpsl : look (exec (.cpsl 0x08) (cpu 0 0 0 0 0 0xFF)) (·.psl.toByte) = some 0xF7 := by decide
theorem test_ppsu : look (exec (.ppsu 0xFF) (cpu 0 0 0 0 0 0)) (·.psu) = some 0x67 := by decide
theorem test_ppsl_bank : look (exec (.ppsl 0x10) (cpu 0 0 5 0 0 0)) (fun t => (t.psl.toByte, t.getReg .r1)) =
    some (0x10, 0) := by decide
theorem test_tpsu : look (exec (.tpsu 0x80) { cpu 0 0 0 0 0 0 with env := { Env.silent with senses := [false] } })
    (·.psl.cc) = some 0b10 := by decide
theorem test_tpsl : look (exec (.tpsl 0xC0) (cpu 0 0 0 0 0 0xC0)) (·.psl.cc) = some 0 := by decide
theorem test_ldpl : look (exec (.ldpl false 0x2100) (cpuMem 0 0 0 0 0 0 [(0x2100, 0xC1)]))
    (fun t => (t.psl.toByte, t.pc)) = some (0xC1, 3) := by decide
theorem test_stpl_indirect : look (exec (.stpl true 0x0080) (cpuMem 0 0 0 0 0 0x49 [(0x80, 0x12), (0x81, 0x34)]))
    (fun t => (t.peek 0x1234, t.cycles)) = some (0x49, 6) := by decide
theorem test_rrl_carry : look (exec (.rrl .r0) (cpu 0 0x48 0 0 0 0x09)) (fun t => (t.r0, flags t)) =
    some (0x91, false, false, true, 0b10) := by decide
theorem test_rrl : look (exec (.rrl .r1) (cpu 0 0 0x81 0 0 0)) (fun t => (t.getReg .r1, flags t)) =
    some (0x03, false, false, false, 0b01) := by decide
theorem test_rrr_carry : look (exec (.rrr .r2) (cpu 0 0 0 0xC1 0 0x08)) (fun t => (t.getReg .r2, flags t)) =
    some (0x60, true, true, true, 0b01) := by decide
theorem test_dar : look (exec (.dar .r0) (cpu 0 0x99 0 0 0 0)) (fun t => t.r0) = some 0x33 := by decide
theorem test_dar_low_digit : look (exec (.dar .r1) (cpu 0 0 0x2B 0 0 0x01)) (fun t => t.getReg .r1) = some 0x25 := by
  decide
theorem test_tmi : look (exec (.tmi .r1 0x81) (cpu 0 0 0x80 0 0 0)) (·.psl.cc) = some 0b10 := by decide
theorem test_nop : look (exec .nop (cpu 0x0100 9 0 0 0 0)) (fun t => (t.pc, t.psl.cc)) = some (0x0101, 0) := by decide
theorem test_halt : look (exec .halt (cpu 0x0112 0 0 0 0 0)) (fun t => (t.pc, t.waiting)) = some (0x0113, true) := by decide
theorem test_undefined : why (exec .undef00 State.reset) = some (.undefinedOpcode 0x00) := by decide
theorem test_plain_variant :
    why (exec (.ldpl false 0) { State.reset with cfg := { Config.default with variant := .p2650 } }) =
      some (.undefinedOpcode 0x10) := by decide

/-! ### Steps -/

/-- Fetch wraps in the page (R66): LODI at $1FFF takes its operand from $0000. -/
theorem test_step_fetch_wraps : look (step (cpuMem 0x1FFF 0 0 0 0 0 [(0, 0x42), (0x1FFF, 0x04)]))
    (fun t => (t.r0, t.pc)) = some (0x42, 0x0001) := by decide

/-- An interrupt request in the WAIT state (R276, R277). -/
theorem test_step_interrupt : look (step { cpu 0x0113 0 0 0 0 0x40 with
      waiting := true, env := { Env.silent with intReqs := [true], intVectors := [0x10] } })
    (fun t => (t.pc, t.entry 1, t.ii, t.waiting, t.psl.cc)) = some (0x0010, 0x0113, true, false, 0b01) := by decide

/-- With II = 1 the request does nothing (R274). -/
theorem test_step_inhibited : look (step { cpuMem 0x0100 0 0 0 0 0 [(0x100, 0xC0)] with
      psu := 0x20, env := { Env.silent with intReqs := [true], intVectors := [0x10] } })
    (fun t => (t.pc, t.sp)) = some (0x0101, 0) := by decide

/-- A reset event over a waiting machine with a request (R300). -/
theorem test_step_reset : look (step { cpuMem 0x2113 5 0 0 0 0x40 [(3, 9)] with
      waiting := true, env := { Env.silent with resets := [some ResetValues.zero], intReqs := [true] } })
    (fun t => (t.pc, t.waiting, t.sp, t.peek 3)) = some (0, false, 0, 9) := by decide

/-- `withFetchWord` from reset: the next step runs the word. -/
theorem test_with_fetch_word : look (step (State.reset.withFetchWord 16 0x4204)) (fun t => (t.r0, t.pc)) =
    some (0x42, 0x0002) := by decide

/-! ### Witnesses: for every statement with hypotheses, a state and operands that meet them -/

theorem test_witness_DecodeOfEncode :
    (Instr.andz .r1).wellFormed = true ∧ (Instr.bsfr .lt true 0x7F).wellFormed = true := by decide

theorem test_witness_EncodeOfDecode : decode [0x0F, 0xFF, 0xFF, 0x40] = .ok (.loda .r3 true .plain 0x1FFF, [0x40]) := rfl

theorem test_witness_LengthIsThatOfByteZero :
    lengthOf 0x10 = some 3 ∧ decode [0x10, 0x7F, 0xFF] = .ok (.ldpl false 0x7FFF, []) ∧ lengthOf 0x94 = some 1 ∧
    decode [0x94] = .ok (.dar .r0, []) := ⟨rfl, rfl, rfl, rfl⟩

/-- A machine about to run a NOP at address 0. -/
def nopAtZero : State := cpuMem 0 0 0 0 0 0 [(0, 0xC0)]

theorem test_witness_StepRunsTheInstructionAtPc :
    Instr.nop.wellFormed = true ∧ nopAtZero.holdsInstr .nop ∧ nopAtZero.quiet ∧
    (nopAtZero.request && !nopAtZero.ii) = false ∧ nopAtZero.waiting = false := by
  refine ⟨rfl, fun k b h => ?_, fun v h => (by cases h), rfl, rfl⟩
  match k with
  | 0 =>
    cases h
    exact ⟨.inl rfl, rfl⟩
  | k + 1 => cases h

/-- LODI,r2 $F8 answered by a device that fills page 1, from the page's last address on. -/
def fromDevice : State :=
  { cpu 0x3FFF 0 0 0 0 0 with
    env := { Env.silent with memReads := [0x06, 0xF8] }
    cfg := { Config.default with memMap := [⟨0x2000, 0x2000, .device⟩] } }

/-- Its other clause: instruction bytes read from a device over the end of a page, in order (20_memory.md R66, R81). -/
theorem test_witness_StepRunsTheInstructionAtPc_device :
    (State.readRun (encode (.lodi .r2 0xF8)).length fromDevice.pc fromDevice.sampled).1 = encode (.lodi .r2 0xF8) ∧
    (fromDevice.request && !fromDevice.ii) = false ∧ fromDevice.waiting = false ∧
    look (step fromDevice) (fun t => (t.trace, t.pc)) = some ([.deviceRead 0x3FFF, .deviceRead 0x2000], 0x2001) := by
  decide

/-- A waiting machine with an interrupt request, II as given. -/
def waitingMachine (psu : Byte) (req : List Bool) : State :=
  { cpu 0x0113 0 0 0 0 0 with waiting := true, psu := psu, env := { Env.silent with intReqs := req } }

theorem test_witness_WaitingStepChangesNothing :
    (waitingMachine 0x20 [true]).quiet ∧ ((waitingMachine 0x20 [true]).request && !(waitingMachine 0x20 [true]).ii) = false ∧
    (waitingMachine 0x20 [true]).waiting = true :=
  ⟨fun v h => (by cases h), rfl, rfl⟩

theorem test_witness_InterruptAcceptance :
    (waitingMachine 0x07 [true]).quiet ∧ (waitingMachine 0x07 [true]).request = true ∧ (waitingMachine 0x07 [true]).ii = false :=
  ⟨fun v h => (by cases h), rfl, rfl⟩

theorem test_witness_InhibitMasksTheRequest : (waitingMachine 0x20 []).quiet ∧ (waitingMachine 0x20 []).ii = true :=
  ⟨fun v h => (by cases h), rfl⟩

theorem test_witness_ResetEvent :
    ({ State.reset with env := { Env.silent with resets := [some ResetValues.zero] } } : State).env.resets =
      some ResetValues.zero :: [] := rfl

theorem test_witness_StepKeepsGoodStates :
    nopAtZero.good = true ∧ look (step nopAtZero) (fun t => (t.good, t.pc)) = some (true, 1) := by decide

theorem test_witness_StepKeepsParameters : look (step nopAtZero) (fun t => decide (t.cfg = nopAtZero.cfg)) = some true := by
  decide

theorem test_witness_DefinedInstructionsComplete :
    (Instr.stpl true 0x7FFF).wellFormed = true ∧ (∀ b, (Instr.stpl true 0x7FFF, b) ∉ undefinedRows) ∧
    State.reset.cfg.variant = .p2650B ∧ State.reset.cfg.indexWrap = .wrap :=
  ⟨rfl, fun b h => (by simp [undefinedRows] at h), rfl, rfl⟩

theorem test_witness_OnlyStoresWriteMemory :
    (Instr.lodi .r1 3).stores = false ∧ look (exec (.lodi .r1 3) nopAtZero) (fun t => t.peek 0) = some 0xC0 := by decide

theorem test_witness_OnlyBranchesChangeThePage :
    (Instr.nop).branches = false ∧ (Instr.nop).calls = false ∧ (Instr.nop).returns = false ∧
    look (exec .nop (cpu 0x3FFF 0 0 0 0 0)) (fun t => t.pc) = some 0x2000 := by decide

theorem test_witness_OnlyPslWritesChangeModes :
    (Instr.addz .r1).writesModes = false ∧
    look (exec (.addz .r1) (cpu 0 1 2 0 0 0x0A)) (fun t => t.psl.toByte) = some 0x4A := by decide

theorem test_witness_NoOtherInstructionSetsCCThree :
    (Instr.cpsl 0x40).freesCC = false ∧ (cpu 0 0 0 0 0 0x80).psl.cc ≠ 0b11 ∧
    look (exec (.cpsl 0x40) (cpu 0 0 0 0 0 0x80)) (fun t => t.psl.cc) = some 0b10 := by decide

theorem test_witness_WritersOfPsuAndStack :
    (Instr.lodz .r1).writesPsu = false ∧ (∀ v, Instr.lodz .r1 ≠ .rete v) ∧ (Instr.lodz .r1).calls = false ∧
    (Instr.lodz .r1).returns = false ∧ look (exec (.lodz .r1) (stacked 0x67 7 0x7FFF 0)) (fun t => (t.psu, t.entry 7)) =
      some (0x67, 0x7FFF) := by
  refine ⟨rfl, fun v h => (by cases h), rfl, rfl, by decide⟩

theorem test_witness_OnlyHaltWaits : look (exec .nop (waitingMachine 0 [])) (·.waiting) = some true := by decide

theorem test_witness_UnselectedBankIsOutOfReach :
    (cpu 0 0 0 0 0 0).psl.rs = false ∧ (cpu 0 0 0 0 0 0x10).psl.rs = true := by decide

theorem test_witness_EnvironmentIndependence : (Instr.lodr .r1 true 0).readsEnv = false ∧ ∀ a, State.reset.stored a :=
  ⟨rfl, fun _ => .inl rfl⟩

theorem test_witness_UndefinedBytesAreRefused :
    ({ State.reset with cfg := { Config.default with variant := .p2650 } } : State).cfg.variant = .p2650 := rfl

/-- The sum 8191 fits, 8192 does not, with INDEX_WRAP = refuse; with wrap both do. -/
theorem test_witness_index_boundary :
    (refusing (cpu 0 0 0 0 1 0)).indexFits .r3 false .plain 0x1FFE ∧
    ¬ (refusing (cpu 0 0 0 0 2 0)).indexFits .r3 false .plain 0x1FFE ∧
    (cpu 0 0 0 0 2 0).indexFits .r3 false .plain 0x1FFE ∧ (cpu 0 0 0 0 0 0).indexFits .r3 true .none 0 := by
  refine ⟨.inr (.inr (by decide)), ?_, .inr (.inl rfl), .inl rfl⟩
  rintro (h | h | h)
  · cases h
  · cases h
  · exact absurd h (by decide)

/-- Which is the witness for the format A clauses of LoadFromRegisterOrMemory, AddSumAndFlags,
SubtractDifferenceAndFlags, LogicBitByBit, CompareOrder, StoreAbsolute and CrossingIndexIsRefused; the refusal: -/
theorem test_index_crossing_refused :
    why (exec (.loda .r3 false .plain 0x1FFE) (refusing (cpu 0 0 0 0 2 0))) = some .indexCrossesPage := by decide

/-- The clauses on BXA and BSXA of FarBranchesAndCalls and CrossingIndexIsRefused. -/
theorem test_witness_branch_index_boundary :
    (refusing (cpu 0 0 0 0 1 0)).branchFits false 0x3FFE ∧ ¬ (refusing (cpu 0 0 0 0 2 0)).branchFits false 0x3FFE ∧
    (cpu 0 0 0 0 2 0).branchFits false 0x3FFE := by
  refine ⟨.inr (by decide), ?_, .inl rfl⟩
  rintro (h | h)
  · cases h
  · exact absurd h (by decide)

theorem test_witness_IllFormedTermsAreRefused : (Instr.lodz .r0).wellFormed = false := by decide

theorem test_witness_RelativeAddressIsModuloPage :
    (cpu 0x3FFC 0 0 0 0 0).pc = 1#2 ++ 0x1FFC#13 ∧ ((cpu 0x3FFC 0 0 0 0 0).eaR false 14).1 = 0x200C := by decide

theorem test_witness_PointerIsHighByteFirst :
    State.reset.stored 0x1FFF ∧ State.reset.stored 0x0000 ∧ addressAt (page 0x1FFF).toNat ((off 0x1FFF).toNat + 1) = 0 :=
  ⟨.inl rfl, .inl rfl, by decide⟩

/-- Its clauses on devices and on absent addresses, at the end of page 1. -/
theorem test_witness_PointerIsHighByteFirst_device :
    fromDevice.env.memReads = 0x06 :: 0xF8 :: [] ∧ fromDevice.kindAt 0x3FFF = .device ∧
    addressAt (page 0x3FFF).toNat ((off 0x3FFF).toNat + 1) = 0x2000 ∧ fromDevice.kindAt 0x2000 = .device ∧
    (fromDevice.readPtr 0x3FFF).1 = 0x06F8 ∧
    (fromDevice.readPtr 0x3FFF).2.trace = [.deviceRead 0x3FFF, .deviceRead 0x2000] ∧
    ({ fromDevice with cfg := { Config.default with memMap := [⟨0, 0x8000, .absent⟩] } } : State).kindAt 0x3FFF = .absent := by
  decide

/-- Register 3 at each of the values where the clauses begin or end. -/
theorem test_witness_AbsoluteBranchAddress :
    (cpu 0 0 0 0 0 0x00).holds .eq = true ∧ (cpu 0 0 0 0 0 0x00).holds .gt = false ∧
    (cpu 0 0 0 0 1 0).x .r3 ≠ 0 ∧ (cpu 0 0 0 0 254 0).x .r3 ≠ 255 ∧ (cpu 0 0 0 0 2 0).x .r3 ≠ 1 ∧
    look (exec (.bcta .eq false 0x7FFF) (cpu 0 0 0 0 0 0x00)) (·.pc) = some 0x7FFF := by decide

/-- A machine with one address of each kind: $0000 ROM, $0001 a device, $0002 nothing, the rest RAM. -/
def mixed : State :=
  { State.reset with cfg := { Config.default with memMap := [⟨0, 1, .rom⟩, ⟨1, 1, .device⟩, ⟨2, 1, .absent⟩] } }

theorem test_witness_MemoryAccessByKind :
    mixed.kindAt 0 = .rom ∧ mixed.kindAt 1 = .device ∧ mixed.kindAt 2 = .absent ∧ mixed.kindAt 3 = .ram ∧
    mixed.kindAt 0x7FFF = .ram := by decide

theorem test_witness_ScriptsAnswerInOrder :
    ({ Env.silent with senses := [true], ioReads := [1], memReads := [2], intVectors := [3] } : Env).senses = true :: [] ∧
    State.reset.env.senses = [] ∧ State.reset.env.resets = [] := ⟨rfl, rfl, rfl⟩

theorem test_witness_ZeroPageAddress :
    ({ Env.silent with intVectors := [0x40, 0x3F] } : Env).intVectors = (0#1 ++ 0x40#7) :: [0x3F] := by decide

theorem test_witness_SetCCBySign :
    ccOf 0x01 = 0b01 ∧ ccOf 0x7F = 0b01 ∧ ccOf 0x00 = 0b00 ∧ ccOf 0x80 = 0b10 ∧ ccOf 0xFF = 0b10 := by decide

theorem test_witness_PslInMemory : State.reset.cfg.variant = .p2650B := rfl

theorem test_witness_LoadFromRegisterOrMemory : Reg.r3 ≠ Reg.r0 := by decide

theorem test_witness_PslWritesAreUnmasked :
    look (exec (.ppsl 0x10) (cpu 0 0 0 0 0 0)) (fun t => t.psl.rs) = some true := by decide

theorem test_witness_RotateThroughCarryOrNot :
    (cpu 0 0 0 0 0 0x00).psl.wc = false ∧ (cpu 0 0 0 0 0 0x08).psl.wc = true := by decide

/-- The boundary values 99 and 99, and 0 and 99, of BcdProcedures. -/
theorem test_witness_BcdProcedures :
    (cpu 0 0x99 0 0 0 0).psl.wc = false ∧ (cpu 0 0x99 0 0 0 0).x .r0 = BitVec.ofNat 8 (99 / 10 % 10 * 16 + 99 % 10) ∧
    (cpu 0 0x00 0 0 0 0).x .r0 = BitVec.ofNat 8 (0 / 10 % 10 * 16 + 0 % 10) := by decide

theorem test_witness_ConditionalBranches :
    Cond.lt ≠ Cond.un ∧ (cpu 0 0 0 0 0 0x80).holds .lt = true ∧ (cpu 0 0 0 0 0 0xC0).holds .lt = false ∧
    (cpu 0 0 0 0 0 0xC0).holds .un = true := by decide

theorem test_witness_ConditionalSubroutineBranches :
    Cond.eq ≠ Cond.un ∧ (cpu 0 0 0 0 0 0x00).holds .eq = true ∧ (cpu 0 0 0 0 0 0x40).holds .eq = false := by decide

theorem test_witness_LogicBitByBit :
    Reg.r1 ≠ Reg.r0 ∧ (refusing (cpu 0 0 0 0 0xFF 0)).indexFits .r3 false .inc 0x1FFF :=
  ⟨by decide, .inr (.inr (by decide))⟩

theorem test_witness_PopReadsThenDecrements :
    (stacked 0 0 0x7FFF 0).holds .eq = true ∧
    look (exec (.retc .eq) (stacked 0 0 0x7FFF 0)) (fun t => (t.pc, t.sp)) = some (0x7FFF, 7) := by decide

theorem test_witness_PushIncrementsThenStores :
    (Instr.bsta .un false 0x0100).calls = true ∧ (stacked 7 0 0 0).takesCall (.bsta .un false 0x0100) = true ∧
    look (exec (.bsta .un false 0x0100) (stacked 7 0 0 0)) (fun t => (t.sp, t.entry 0)) = some (0, 0x0303) := by decide

/-- Its other clause: a subroutine branch that is not taken. -/
theorem test_witness_PushIncrementsThenStores_untaken :
    (stacked 7 0 0 0).takesCall (.bsfr .eq false 0) = false ∧
    look (exec (.bsfr .eq false 0) (stacked 7 0 0 0)) (fun t => (t.sp, t.pc)) = some (7, 0x0302) := by decide

theorem test_witness_NopMovesOn : (cpu 0x0100 0 0 0 0 0).pc = 0x0100 := rfl

end Sys2Proof.Tests
end

section
/-! The condition code by the sign of a byte: what `ccOf` is as a number, and that writing it changes CC alone (R13). -/

namespace Sys2Proof.Machine

/-- Bit 7 is the sign: the byte is 128 or above (R13). -/
theorem getLsbD_seven_iff (v : Byte) : v.getLsbD 7 = true ↔ 128 ≤ v.toNat := by
  have hsign : v.getLsbD 7 = decide (128 ≤ v.toNat) := v.msb_eq_getLsbD_last.symm.trans v.msb_eq_decide
  rw [hsign, decide_eq_true_iff]

theorem signCode_of_zero {v : Byte} (h : v.toNat = 0) : signCode v = 0b00 := if_pos h

theorem signCode_of_positive {v : Byte} (h : 1 ≤ v.toNat ∧ v.toNat ≤ 127) : signCode v = 0b01 :=
  (if_neg (by omega)).trans (if_pos h.2)

theorem signCode_of_negative {v : Byte} (h : 128 ≤ v.toNat) : signCode v = 0b10 :=
  (if_neg (by omega)).trans (if_neg (by omega))

/-- The bit tests of the model's `SetCC` are the ranges of R13. -/
theorem ccOf_eq_signCode (v : Byte) : ccOf v = signCode v := by
  unfold ccOf
  split_ifs with hzero hbit
  · exact (signCode_of_zero (by simp [hzero])).symm
  · exact (signCode_of_negative ((getLsbD_seven_iff v).mp hbit)).symm
  · have hpos : v.toNat ≠ 0 := fun h => hzero (BitVec.eq_of_toNat_eq h)
    have hlt : ¬ 128 ≤ v.toNat := mt (getLsbD_seven_iff v).mpr hbit
    exact (signCode_of_positive (by omega)).symm

/-- Writing CC is seen in CC alone: the frame of `SetCC`. -/
theorem State.setCC_view (s : State) (cc : BitVec 2) :
    (s.setCC cc).view = { s.view with psl := { s.psl with cc := cc } } := rfl

theorem State.setCC_ccOf_cc (s : State) (v : Byte) : (s.setCC (ccOf v)).psl.cc = signCode v :=
  ccOf_eq_signCode v

end Sys2Proof.Machine

namespace Sys2Proof.Proofs
open Sys2Proof.Machine

/-- Settles O32: the frame is `State.setCC_view`, the value `ccOf_eq_signCode` in each of R13's three ranges. -/
theorem setCCBySign : Obligations.SetCCBySign := by
  intro v s
  refine ⟨?frame, ?positive, ?zero, ?negative, ?never⟩
  case frame => rw [State.setCC_view, ccOf_eq_signCode]
  case positive => exact fun h => (s.setCC_ccOf_cc v).trans (signCode_of_positive h)
  case zero => exact fun h => (s.setCC_ccOf_cc v).trans (signCode_of_zero h)
  case negative => exact fun h => (s.setCC_ccOf_cc v).trans (signCode_of_negative h)
  case never => exact ccOf_ne_three v

end Sys2Proof.Proofs
end

section
/-! The stack pointer and the entries through a pop and the returns made of it (10_state.md R49, 44_subroutine.md R209,
R210). -/

namespace Sys2Proof.Machine

/-- The entries are those of the stack alone, whatever else differs. -/
theorem State.entry_congr {s t : State} (h : t.ras = s.ras) (k : BitVec 3) : t.entry k = s.entry k := by
  simp only [State.entry, h]

@[simp] theorem State.pop_entry (s : State) (k : BitVec 3) : s.pop.2.entry k = s.entry k :=
  State.entry_congr s.pop_ras k

@[simp] theorem State.jump_entry (s : State) (a : Addr) (cyc : Nat) (k : BitVec 3) :
    (s.jump a cyc).entry k = s.entry k :=
  State.entry_congr (s.jump_ras a cyc) k

@[simp] theorem State.setII_entry (s : State) (b : Bool) (k : BitVec 3) : (s.setII b).entry k = s.entry k :=
  State.entry_congr (s.setII_ras b) k

@[simp] theorem State.jump_sp (s : State) (a : Addr) (cyc : Nat) : (s.jump a cyc).sp = s.sp := rfl

/-- II is no bit of SP. -/
@[simp] theorem State.setII_sp (s : State) (b : Bool) : (s.setII b).sp = s.sp := by
  simp [State.sp]

/-- The decrement of R49 wraps from 0 to 7. -/
theorem State.pop_sp_toNat (s : State) : s.pop.2.sp.toNat = (s.sp.toNat + 7) % 8 := by
  rw [State.pop_sp, BitVec.toNat_sub, Nat.add_comm]
  rfl

theorem State.condTrue_eq_holds (s : State) (v : Cond) : s.condTrue v = s.holds v := by
  rw [Bool.eq_iff_iff]
  simp [State.condTrue, State.holds]

/-- RETC (R209), both ways. -/
theorem exec_retc (v : Cond) (s : State) :
    exec (.retc v) s = .next (if s.holds v then s.pop.2.jump s.pop.1 3 else s.retire 1 3) := by
  change execRetc v s = _
  unfold execRetc
  rw [State.condTrue_eq_holds]
  cases s.holds v <;> rfl

/-- RETE (R210), both ways. -/
theorem exec_rete (v : Cond) (s : State) :
    exec (.rete v) s =
      .next (if s.holds v then (s.pop.2.setII false).jump s.pop.1 3 else s.retire 1 3) := by
  change execRete v s = _
  unfold execRete
  rw [State.condTrue_eq_holds, State.returnEnabling_eq]
  cases s.holds v <;> rfl

end Sys2Proof.Machine

namespace Sys2Proof.Proofs
open Sys2Proof.Machine

/-- Settles O55: a return that is taken is a pop and a jump to the popped entry, RETE's clearing of II between them; neither
the jump nor II reaches SP or the entries. -/
theorem popReadsThenDecrements : Obligations.PopReadsThenDecrements := by
  refine ⟨fun s => ⟨s.pop_fst, s.pop_sp_toNat, s.pop_entry⟩, ?returns⟩
  case returns =>
    intro v s t hholds hexec
    rw [exec_retc, exec_rete, if_pos hholds, if_pos hholds] at hexec
    rcases hexec with hretc | hrete
    · cases hretc
      exact ⟨s.pop_fst, s.pop_sp_toNat, by simp⟩
    · cases hrete
      exact ⟨s.pop_fst, by rw [State.jump_sp, State.setII_sp, s.pop_sp_toNat], by simp⟩

end Sys2Proof.Proofs
end

section
/-! In-page addresses as arithmetic: a displacement added in the page of an address is an addition of integers modulo 8192
(20_memory.md R61, R67). -/

namespace Sys2Proof.Machine

@[simp] theorem page_append (p : BitVec 2) (o : Offset) : page (p ++ o) = p := high_append p o

@[simp] theorem off_append (p : BitVec 2) (o : Offset) : off (p ++ o) = o := low_append p o

@[simp] theorem inpage_append (p : BitVec 2) (o k : Offset) : inpage (p ++ o) k = p ++ (o + k) := by
  rw [inpage, page_append, off_append]

@[simp] theorem page_inpage (a : Addr) (k : Offset) : page (inpage a k) = page a := page_append _ _

/-- The integer of `addressAt` is reduced modulo 8192 as a 13-bit word is. -/
theorem addressAt_eq_append (p : BitVec 2) (z : Int) : addressAt p.toNat z = p ++ BitVec.ofInt 13 z := by
  apply BitVec.eq_of_toNat_eq
  have hoff : (BitVec.ofInt 13 z).toNat = (z % 8192).toNat := BitVec.toNat_ofInt z
  have hpage : p.toNat < 4 := p.isLt
  have hlt : (z % 8192).toNat < 2 ^ 13 := by omega
  calc (addressAt p.toNat z).toNat
      = (p.toNat * 8192 + (z % 8192).toNat) % 32768 := BitVec.toNat_ofNat _ _
    _ = p.toNat * 8192 + (z % 8192).toNat := Nat.mod_eq_of_lt (by omega)
    _ = (p ++ BitVec.ofInt 13 z).toNat := by
      rw [BitVec.toNat_append, hoff, ← Nat.shiftLeft_add_eq_or_of_lt hlt, Nat.shiftLeft_eq]

/-- `inpage` (00_scope.md R11) with its 13-bit word read as an integer. -/
theorem inpage_ofInt (a : Addr) (z : Int) :
    inpage a (BitVec.ofInt 13 z) = addressAt (page a).toNat ((off a).toNat + z) := by
  rw [addressAt_eq_append, BitVec.ofInt_add, BitVec.ofInt_natCast, BitVec.ofNat_toNat, BitVec.setWidth_eq]
  rfl

/-- `sext7_13` (00_scope.md R9) keeps the number from -64 to 63. -/
theorem sext7_eq_ofInt (d : Disp) : sext7 d = BitVec.ofInt 13 d.toInt := rfl

/-- `EA_R` (30_encoding.md R104): the address R67 gives by arithmetic, or the pointer read there. -/
theorem State.eaR_eq_resolve (s : State) (i : Bool) (d : Disp) :
    s.eaR i d = s.resolve i (addressAt (page s.pc).toNat ((off (inpage s.pc 2)).toNat + d.toInt)) := by
  rw [State.eaR, sext7_eq_ofInt, inpage_ofInt, page_inpage]

end Sys2Proof.Machine

namespace Sys2Proof.Proofs
open Sys2Proof.Machine

/-- Settles O26: both address forms are `State.eaR_eq_resolve`; in the rule's example the offset $1FFC + 2 + 14 wraps to $000C
beside page bits that stay. -/
theorem relativeAddressIsModuloPage : Obligations.RelativeAddressIsModuloPage := by
  refine ⟨fun s d => ⟨s.eaR_eq_resolve false d, s.eaR_eq_resolve true d⟩, ?pageEnd⟩
  case pageEnd =>
    intro s p hpc
    have hwrap : 0x1FFC#13 + 2 + sext7 14 = 0x000C#13 := by decide
    rw [State.eaR, State.resolve_direct, hpc, inpage_append, inpage_append, hwrap]

end Sys2Proof.Proofs
end

section
/-! Absolute branches (30_encoding.md R107): what the effective address is read from, so that a stepped register
does not move it, and what each of the eight instructions is of the two branch forms. -/

namespace Sys2Proof.Machine

/-! ### What a read of memory answers from -/

/-- Nothing that a read of memory answers from differs: the kinds of addresses, the cells, the scripts and the counter
of free values. Registers, PSL, the stack, `pc` and the outputs are free. -/
def State.SameMemory (s t : State) : Prop := t.cfg = s.cfg ∧ t.mem = s.mem ∧ t.env = s.env ∧ t.draws = s.draws

theorem State.sameMemory_setReg (s : State) (r : Reg) (v : Byte) : s.SameMemory (s.setReg r v) :=
  ⟨s.setReg_cfg r v, s.setReg_mem r v, s.setReg_env r v, s.setReg_draws r v⟩

theorem State.SameMemory.emit {s t : State} (h : s.SameMemory t) (e : Event) : (s.emit e).SameMemory (t.emit e) := h

theorem State.SameMemory.kindAt {s t : State} (h : s.SameMemory t) (a : Addr) : t.kindAt a = s.kindAt a := by
  obtain ⟨hcfg, -⟩ := h
  simp only [State.kindAt, hcfg]

theorem State.SameMemory.peek {s t : State} (h : s.SameMemory t) (a : Addr) : t.peek a = s.peek a := by
  obtain ⟨-, hmem, -⟩ := h
  simp only [State.peek, hmem]

theorem State.SameMemory.drawMemRead {s t : State} (h : s.SameMemory t) :
    t.drawMemRead.1 = s.drawMemRead.1 ∧ s.drawMemRead.2.SameMemory t.drawMemRead.2 := by
  obtain ⟨hcfg, hmem, henv, hdraws⟩ := h
  unfold State.drawMemRead State.SameMemory
  rw [henv]
  cases s.env.memReads with
  | nil => simp [hcfg, hmem, hdraws]
  | cons b bs => simp [hcfg, hmem, hdraws]

/-- The same byte from any kind of memory, and the same memory after it. -/
theorem State.SameMemory.memRead {s t : State} (h : s.SameMemory t) (a : Addr) :
    (t.memRead a).1 = (s.memRead a).1 ∧ (s.memRead a).2.SameMemory (t.memRead a).2 := by
  have hkind := h.kindAt a
  cases hs : s.kindAt a with
  | ram =>
    rw [State.memRead_stored (.inl hs), State.memRead_stored (.inl (hkind.trans hs))]
    exact ⟨h.peek a, h⟩
  | rom =>
    rw [State.memRead_stored (.inr hs), State.memRead_stored (.inr (hkind.trans hs))]
    exact ⟨h.peek a, h⟩
  | device =>
    rw [State.memRead_device hs, State.memRead_device (hkind.trans hs)]
    exact (h.emit _).drawMemRead
  | absent =>
    rw [State.memRead_absent hs, State.memRead_absent (hkind.trans hs)]
    exact h.drawMemRead

/-- The same pointer (20_memory.md R70). -/
theorem State.SameMemory.readPtr {s t : State} (h : s.SameMemory t) (p : Addr) : (t.readPtr p).1 = (s.readPtr p).1 := by
  obtain ⟨hhigh, hbetween⟩ := h.memRead p
  obtain ⟨hlow, -⟩ := hbetween.memRead (inpage p 1)
  simp only [State.readPtr_eq, hhigh, hlow]

/-- The same absolute branch address (30_encoding.md R107). -/
theorem State.SameMemory.eaB {s t : State} (h : s.SameMemory t) (i : Bool) (a : Addr) :
    (t.eaB i a).1 = (s.eaB i a).1 := by
  cases i with
  | false => rfl
  | true => exact h.readPtr a

/-! ### The tests -/

theorem State.getReg_eq_x (s : State) (r : Reg) : s.getReg r = s.x r := by
  cases r <;> cases hrs : s.psl.rs <;> simp [State.getReg, State.x, State.cell, State.bank, hrs]

theorem State.nonZero_eq_decide (s : State) (r : Reg) : s.nonZero r = decide (s.getReg r ≠ 0) := by
  rw [State.nonZero, bne, beq_eq_decide, decide_not]

/-- For a condition the condition-false branches can name, their test is the opposite of R111's. -/
theorem State.condFalse_eq_not_holds (s : State) {v : Cond} (hv : v ≠ .un) : s.condFalse v = !s.holds v := by
  simp [State.condFalse, State.holds, hv, bne, beq_eq_decide]

/-- The condition `un` holds in every state. -/
theorem State.ne_un_of_holds_eq_false {s : State} {v : Cond} (h : s.holds v = false) : v ≠ .un := by
  rintro rfl
  simp [State.holds] at h

/-- The incremented register is zero from 255 alone (43_branch.md R187). -/
theorem State.nonZero_incReg (s : State) (r : Reg) : (s.incReg r).nonZero r = decide (s.x r ≠ 255) := by
  have hwrap : s.x r + 1 = 0 ↔ s.x r = 255 := by bv_omega
  rw [State.nonZero_eq_decide, State.incReg, State.getReg_setReg_same, State.getReg_eq_x]
  exact decide_eq_decide.mpr hwrap.not

/-- The decremented register is zero from 1 alone (R189). -/
theorem State.nonZero_decReg (s : State) (r : Reg) : (s.decReg r).nonZero r = decide (s.x r ≠ 1) := by
  have hzero : s.x r - 1 = 0 ↔ s.x r = 1 := by bv_omega
  rw [State.nonZero_eq_decide, State.decReg, State.getReg_setReg_same, State.getReg_eq_x]
  exact decide_eq_decide.mpr hzero.not

/-! ### The instructions, each as its branch form (43_branch.md, 44_subroutine.md) -/

theorem exec_bcta (v : Cond) (i : Bool) (a : Addr) (s : State) :
    exec (.bcta v i a) s = branchB (s.holds v) i a s := by
  rw [← State.condTrue_eq_holds]
  rfl

theorem exec_bsta (v : Cond) (i : Bool) (a : Addr) (s : State) :
    exec (.bsta v i a) s = callB (s.holds v) i a s := by
  rw [← State.condTrue_eq_holds]
  rfl

theorem exec_bcfa {v : Cond} (hv : v ≠ .un) (i : Bool) (a : Addr) (s : State) :
    exec (.bcfa v i a) s = branchB (!s.holds v) i a s := by
  rw [← State.condFalse_eq_not_holds s hv]
  exact if_neg hv

theorem exec_bsfa {v : Cond} (hv : v ≠ .un) (i : Bool) (a : Addr) (s : State) :
    exec (.bsfa v i a) s = callB (!s.holds v) i a s := by
  rw [← State.condFalse_eq_not_holds s hv]
  exact if_neg hv

theorem exec_brna (r : Reg) (i : Bool) (a : Addr) (s : State) :
    exec (.brna r i a) s = branchB (decide (s.x r ≠ 0)) i a s := by
  rw [← State.getReg_eq_x, ← State.nonZero_eq_decide]
  rfl

theorem exec_bsna (r : Reg) (i : Bool) (a : Addr) (s : State) :
    exec (.bsna r i a) s = callB (decide (s.x r ≠ 0)) i a s := by
  rw [← State.getReg_eq_x, ← State.nonZero_eq_decide]
  rfl

theorem exec_bira (r : Reg) (i : Bool) (a : Addr) (s : State) :
    exec (.bira r i a) s = branchB (decide (s.x r ≠ 255)) i a (s.incReg r) := by
  rw [← State.nonZero_incReg]
  rfl

theorem exec_bdra (r : Reg) (i : Bool) (a : Addr) (s : State) :
    exec (.bdra r i a) s = branchB (decide (s.x r ≠ 1)) i a (s.decReg r) := by
  rw [← State.nonZero_decReg]
  rfl

/-! ### Where a taken one goes -/

/-- The instruction answers a next state, whose `pc` is `target`. -/
def GoesTo (ins : Instr) (s : State) (target : Addr) : Prop := ∃ t, exec ins s = .next t ∧ t.pc = target

/-- An instruction that is a taken absolute branch in the state `u` goes to the address formed in `u`. -/
theorem goesTo_of_branchB {ins : Instr} {s u : State} {taken i : Bool} {a : Addr}
    (hexec : exec ins s = branchB taken i a u) (htaken : taken = true) : GoesTo ins s (u.eaB i a).1 := by
  rw [branchB_eq, if_pos htaken] at hexec
  exact ⟨_, hexec, State.jump_pc _ _ _⟩

theorem goesTo_of_callB {ins : Instr} {s : State} {taken i : Bool} {a : Addr}
    (hexec : exec ins s = callB taken i a s) (htaken : taken = true) : GoesTo ins s (s.eaB i a).1 := by
  rw [callB_eq, if_pos htaken] at hexec
  exact ⟨_, hexec, State.call_pc _ _ _ _⟩

/-- The branches that step a register first: the address is that of the state before the step. -/
theorem goesTo_of_branchB_setReg {ins : Instr} {s : State} {taken i : Bool} {a : Addr} {r : Reg} {b : Byte}
    (hexec : exec ins s = branchB taken i a (s.setReg r b)) (htaken : taken = true) : GoesTo ins s (s.eaB i a).1 := by
  rw [← (s.sameMemory_setReg r b).eaB i a]
  exact goesTo_of_branchB hexec htaken

end Sys2Proof.Machine

namespace Sys2Proof.Proofs
open Sys2Proof.Machine

/-- Settles O60: the address is `State.resolve` of the field, and each instruction an absolute branch or subroutine branch
whose test is the clause's premise; BIRA and BDRA step their register before the address is formed, which no read of
memory sees. -/
theorem absoluteBranchAddress : Obligations.AbsoluteBranchAddress := by
  refine ⟨fun s a => ⟨s.resolve_direct a, s.resolve_indirect a⟩, ?field, ?taken⟩
  case field =>
    intro v r i a ins hins
    simp only [List.mem_cons, List.not_mem_nil, or_false] at hins
    rcases hins with rfl | rfl | rfl | rfl | rfl | rfl | rfl | rfl <;> rfl
  case taken =>
    intro v r i a s
    refine ⟨fun hmet => ⟨?bcta, ?bsta⟩, fun hunmet => ?conditionFalse, fun hreg => ⟨?brna, ?bsna⟩,
      fun hreg => ?bira, fun hreg => ?bdra⟩
    case bcta => exact goesTo_of_branchB (exec_bcta v i a s) hmet
    case bsta => exact goesTo_of_callB (exec_bsta v i a s) hmet
    case conditionFalse =>
      have hv : v ≠ .un := State.ne_un_of_holds_eq_false hunmet
      have hnot : (!s.holds v) = true := by rw [hunmet, Bool.not_false]
      exact ⟨goesTo_of_branchB (exec_bcfa hv i a s) hnot, goesTo_of_callB (exec_bsfa hv i a s) hnot⟩
    case brna => exact goesTo_of_branchB (exec_brna r i a s) (decide_eq_true hreg)
    case bsna => exact goesTo_of_callB (exec_bsna r i a s) (decide_eq_true hreg)
    case bira => exact goesTo_of_branchB_setReg (exec_bira r i a s) (decide_eq_true hreg)
    case bdra => exact goesTo_of_branchB_setReg (exec_bdra r i a s) (decide_eq_true hreg)

end Sys2Proof.Proofs
end

section
/-! Load immediate (40_load_store.md R142): a register write as a reader sees it, and an immediate instruction from what
its operation does to the view. -/

namespace Sys2Proof.Machine

/-! ### A register write, seen cell by cell -/

/-- A cell that the instruction can reach, r0 or one of the selected bank, is a register read (10_state.md R22). -/
theorem State.cell_of_reached {s : State} {b : Bool} {q : Reg} (h : q = .r0 ∨ b = s.psl.rs) :
    s.cell b q = s.getReg q := by
  rcases h with rfl | rfl
  · rfl
  · exact (s.getReg_eq_x q).symm

/-- Any other cell is in the bank that is not selected. -/
theorem State.cell_congr_of_unreached {s t : State} {b : Bool} {q : Reg} (h : ¬ (q = .r0 ∨ b = s.psl.rs))
    (hrs : t.psl.rs = s.psl.rs) (hother : t.otherBank = s.otherBank) : t.cell b q = s.cell b q := by
  obtain ⟨hq, hb⟩ := not_or.mp h
  rw [State.otherBank, State.otherBank, hrs] at hother
  cases q with
  | r0 => exact absurd rfl hq
  | r1 | r2 | r3 => cases b <;> simp_all [State.cell]

/-- A register write sets one cell, of the selected bank or r0 (00_scope.md R10). -/
theorem State.cell_setReg (s : State) (r : Reg) (v : Byte) : (s.setReg r v).cell = setCell s.cell s.psl.rs r v := by
  funext b q
  have hpsl : (s.setReg r v).psl = s.psl := s.setReg_psl r v
  by_cases h : q = .r0 ∨ b = s.psl.rs
  · rw [State.cell_of_reached (hpsl.symm ▸ h), State.getReg_setReg, ← State.cell_of_reached h]
    simp only [setCell, h, and_true]
  · rw [State.cell_congr_of_unreached h (congrArg Psl.rs hpsl) (s.otherBank_setReg r v)]
    exact (if_neg fun hcell => h hcell.2).symm

/-- The frame of a register write. -/
theorem State.setReg_view (s : State) (r : Reg) (v : Byte) :
    (s.setReg r v).view = { s.view with cell := setCell s.cell s.psl.rs r v } := by
  have hentry : (s.setReg r v).entry = s.entry := funext (State.entry_congr (s.setReg_ras r v))
  have hbyte : (s.setReg r v).peek = s.peek := funext (State.peek_congr (s.setReg_mem r v))
  simp [State.view, State.cell_setReg, hentry, hbyte]

/-- The end of an instruction moves `pc` and the cycle count alone. -/
theorem State.retire_view (s : State) (len : Offset) (cyc : Nat) :
    (s.retire len cyc).view =
      { s.view with pc := inpage s.view.pc len, cycles := s.view.cycles + cyc } := rfl

/-! ### An operation of the arithmetic group, and format I -/

/-- The model's operation `f` on a register operand and another operand is the effect `eff`, and nothing else is seen to
change. -/
def HasEffect (f : Reg → Byte → State → State) (eff : Psl → Byte → Byte → Byte × Psl) : Prop :=
  ∀ (r : Reg) (m : Byte) (s : State),
    (f r m s).view =
      { s.view with
        cell := setCell s.cell s.psl.rs r (eff s.psl (s.x r) m).1, psl := (eff s.psl (s.x r) m).2 }

/-- An instruction that is format I over an operation has the operation's effect (30_encoding.md R97). -/
theorem runsI_of_hasEffect {ins : Reg → Byte → Instr} {f : Reg → Byte → State → State}
    {eff : Psl → Byte → Byte → Byte × Psl} (hexec : ∀ r v s, exec (ins r v) s = formI f r v s)
    (hf : HasEffect f eff) : RunsI ins eff := by
  intro r v s
  refine ⟨(f r v s).retire 2 2, hexec r v s, ?_⟩
  rw [State.retire_view, hf]
  rfl

/-! ### Loads -/

theorem exec_lodi (r : Reg) (v : Byte) (s : State) : exec (.lodi r v) s = formI State.loadOp r v s := rfl

theorem loadOp_hasEffect : HasEffect State.loadOp loadEffect := by
  intro r m s
  rw [State.loadOp, State.setCC_view, State.setReg_view, State.setReg_psl, ccOf_eq_signCode]
  rfl

theorem State.loadOp_x (r : Reg) (m : Byte) (s : State) : (State.loadOp r m s).x r = m := by
  calc (State.loadOp r m s).x r
      = (s.setReg r m).x r := rfl
    _ = (s.setReg r m).getReg r := ((s.setReg r m).getReg_eq_x r).symm
    _ = m := s.getReg_setReg_same r m

theorem State.loadOp_cc (r : Reg) (m : Byte) (s : State) : (State.loadOp r m s).psl.cc = signCode m :=
  (s.setReg r m).setCC_ccOf_cc m

/-- What LODI leaves in its register and in CC: the form of the rule's examples. -/
theorem lodi_loads (r : Reg) (v : Byte) (s : State) :
    ∃ t, exec (.lodi r v) s = .next t ∧ t.x r = v ∧ t.psl.cc = signCode v :=
  ⟨_, exec_lodi r v s, State.loadOp_x r v s, State.loadOp_cc r v s⟩

end Sys2Proof.Machine

namespace Sys2Proof.Proofs
open Sys2Proof.Machine

/-- Settles O38: LODI is format I over the load operation, which has the effect of a load; the examples are a negative
byte and zero. -/
theorem loadImmediate : Obligations.LoadImmediate := by
  refine ⟨runsI_of_hasEffect exec_lodi loadOp_hasEffect, ?encoding, fun s => ⟨?negative, ?zero⟩⟩
  case encoding => exact fun _ _ => rfl
  case negative =>
    have hsign : signCode 0xF8 = 0b10 := signCode_of_negative (by decide)
    exact hsign ▸ lodi_loads .r2 0xF8 s
  case zero =>
    have hsign : signCode 0x00 = 0b00 := signCode_of_zero rfl
    exact hsign ▸ lodi_loads .r0 0x00 s

end Sys2Proof.Proofs
end

section
/-! Whole writes of PSL (47_psw.md R242, R246, R248): their frame, the three instructions made of them, and the bank that
RS selects after one. -/

namespace Sys2Proof.Machine

/-- The frame of a write of PSL. -/
theorem State.setPsl_view (s : State) (p : Psl) : (s.setPsl p).view = { s.view with psl := p } := rfl

/-- An instruction that is one write of PSL shows the new PSL, the next address and its cycles, nothing else. -/
theorem runs_of_setPsl {ins : Instr} {s : State} {p : Psl} {len : Offset} {cyc : Nat}
    (hexec : exec ins s = .next ((s.setPsl p).retire len cyc)) :
    Runs ins s { s.view with psl := p, pc := inpage s.pc len, cycles := s.cycles + cyc } := by
  refine ⟨_, hexec, ?_⟩
  rw [State.retire_view, State.setPsl_view]
  rfl

theorem exec_lpsl (s : State) : exec .lpsl s = .next ((s.setPsl (.ofByte s.r0)).retire 1 2) := rfl

theorem exec_cpsl (m : Byte) (s : State) :
    exec (.cpsl m) s = .next ((s.setPsl (s.psl.clear (.ofByte m))).retire 2 3) := rfl

theorem exec_ppsl (m : Byte) (s : State) :
    exec (.ppsl m) s = .next ((s.setPsl (s.psl.preset (.ofByte m))).retire 2 3) := rfl

/-- The registers are those of the bank RS names (10_state.md R22). -/
theorem State.getReg_of_rs {s : State} {b : Bool} (h : s.psl.rs = b) (r : Reg) : s.getReg r = s.cell b r := by
  rw [State.getReg_eq_x, State.x, h]

/-- Bit 4 of the mask is RS (10_state.md R40). -/
theorem Psl.preset_bank_rs (p : Psl) : (p.preset (.ofByte 0x10)).rs = true := by
  have hmask : (Psl.ofByte 0x10).rs = true := by decide
  rw [Psl.preset, hmask, Bool.or_true]

end Sys2Proof.Machine

namespace Sys2Proof.Proofs
open Sys2Proof.Machine

/-- Settles O33: each of the three is one write of PSL, and clearing or setting the fields a mask names is clearing or setting
the bits of the byte. -/
theorem pslWritesAreUnmasked : Obligations.PslWritesAreUnmasked := by
  refine ⟨?lpsl, ?cpsl, ?ppsl, ?encodings, ?bank⟩
  case lpsl => exact fun s => ⟨_, Psl.toByte_ofByte s.r0, runs_of_setPsl (exec_lpsl s)⟩
  case cpsl =>
    intro m s
    refine ⟨_, ?cleared, runs_of_setPsl (exec_cpsl m s)⟩
    rw [Psl.toByte_clear, Psl.toByte_ofByte]
  case ppsl =>
    intro m s
    refine ⟨_, ?preset, runs_of_setPsl (exec_ppsl m s)⟩
    rw [Psl.toByte_preset, Psl.toByte_ofByte]
  case encodings => exact fun _ => ⟨rfl, rfl, rfl⟩
  case bank =>
    intro s t hexec
    cases (exec_ppsl 0x10 s).symm.trans hexec
    exact State.getReg_of_rs s.psl.preset_bank_rs

end Sys2Proof.Proofs
end

section
/-! Instructions that only retire: the next address and the cycles, with nothing else done (48_rotate_misc.md R262). -/

namespace Sys2Proof.Machine

/-- An instruction that does nothing before it retires shows the next address and its cycles, nothing else. -/
theorem runs_of_retire {ins : Instr} {s : State} {len : Offset} {cyc : Nat}
    (hexec : exec ins s = .next (s.retire len cyc)) :
    Runs ins s { s.view with pc := inpage s.pc len, cycles := s.cycles + cyc } :=
  ⟨s.retire len cyc, hexec, s.retire_view len cyc⟩

theorem exec_nop (s : State) : exec .nop s = .next (s.retire 1 2) := rfl

end Sys2Proof.Machine

namespace Sys2Proof.Proofs
open Sys2Proof.Machine

/-- Settles O58: NOP is nothing but retiring past its one byte after two cycles. -/
theorem nopMovesOn : Obligations.NopMovesOn := by
  refine ⟨?encoding, fun s => runs_of_retire (exec_nop s), ?example0100⟩
  case encoding => rfl
  case example0100 =>
    intro s hpc
    refine ⟨s.retire 1 2, exec_nop s, ?_⟩
    have hnext : inpage 0x0100 1 = 0x0101 := by decide
    rw [State.retire_pc, hpc, hnext]

end Sys2Proof.Proofs
end

section
/-! The decoder against the encoder (30_encoding.md): what the bytes after byte 0 must be for the template of byte 0 to
give an instruction, once from the instruction to its bytes and once from the bytes to the instruction. -/

namespace Sys2Proof

/-! ### What a template gives with the bytes after byte 0 -/

/-- With `bytes` after it, the first byte `b0` begins the instruction `i`, and `i` has no further byte. -/
inductive Reads (b0 : Byte) : List Byte → Instr → Prop where
  | one {i : Instr} (h : template b0 = .one i) : Reads b0 [] i
  | two {k : Byte → Instr} (h : template b0 = .two k) (b1 : Byte) : Reads b0 [b1] (k b1)
  | three {k : Byte → Byte → Instr} (h : template b0 = .three k) (b1 b2 : Byte) : Reads b0 [b1, b2] (k b1 b2)

/-- The decoder takes the bytes that its first byte's template asks for. -/
theorem Reads.decode {b0 : Byte} {bytes : List Byte} {i : Instr} (h : Reads b0 bytes i) (rest : List Byte) :
    Sys2Proof.decode (b0 :: bytes ++ rest) = .ok (i, rest) := by
  cases h with
  | one h | two h | three h => simp [Sys2Proof.decode, h]

/-- And it takes no others. -/
theorem reads_of_decode {bytes rest : List Byte} {i : Instr} (h : decode bytes = .ok (i, rest)) :
    ∃ b0 taken, bytes = b0 :: taken ++ rest ∧ Reads b0 taken i := by
  unfold decode at h
  split at h
  · cases h
  · next b0 tail =>
    split at h
    · next ht =>
      cases h
      exact ⟨b0, [], rfl, .one ht⟩
    · next ht =>
      cases h
      exact ⟨b0, _, rfl, .two ht _⟩
    · next ht =>
      cases h
      exact ⟨b0, _, rfl, .three ht _ _⟩
    · cases h

/-! ### From an instruction to its bytes, by format (R96 to R102) -/

/-- Formats R and ER: byte 1 holds the indirect bit and the displacement. -/
theorem reads_rel {b0 : Byte} {k : Bool → Disp → Instr} (h : template b0 = .two fun b1 => k (indBit b1) (disp7 b1))
    (i : Bool) (d : Disp) : Reads b0 [relByte i d] (k i d) := by
  simpa using Reads.two h (relByte i d)

/-- Format A: bytes 1 and 2 hold the indirect bit, the index control and the 13-bit address. -/
theorem reads_idx {b0 : Byte} {k : Bool → IndexCtl → Offset → Instr}
    (h : template b0 = .three fun b1 b2 => k (indBit b1) (indexCtl b1) (addr13 b1 b2))
    (i : Bool) (x : IndexCtl) (a : Offset) : Reads b0 [idxByte i x a, lowByte13 a] (k i x a) := by
  simpa using Reads.three h (idxByte i x a) (lowByte13 a)

/-- Formats B and EB: bytes 1 and 2 hold the indirect bit and the 15-bit address. -/
theorem reads_abs {b0 : Byte} {k : Bool → Addr → Instr}
    (h : template b0 = .three fun b1 b2 => k (indBit b1) (addr15 b1 b2)) (i : Bool) (a : Addr) :
    Reads b0 [absByte i a, lowByte15 a] (k i a) := by
  simpa using Reads.three h (absByte i a) (lowByte15 a)

/-- The encoding of a well-formed instruction is a first byte whose template gives the instruction back. -/
theorem encode_reads (i : Instr) (h : i.wellFormed = true) : ∃ b0 bytes, encode i = b0 :: bytes ∧ Reads b0 bytes i := by
  cases i with
  | spsu | spsl | halt | lpsu | lpsl | nop | undef00 | undef90 | undef91 | undefB6 | undefB7 | undefC4 | undefC5
  | undefC6 | undefC7 => exact ⟨_, _, rfl, .one rfl⟩
  | cpsu m | cpsl m | ppsu m | ppsl m | tpsu m | tpsl m => exact ⟨_, _, rfl, .two rfl m⟩
  | zbrr i d | zbsr i d => exact ⟨_, _, rfl, reads_rel rfl i d⟩
  | ldpl i a | stpl i a | bxa i a | bsxa i a => exact ⟨_, _, rfl, reads_abs rfl i a⟩
  | lodz r | strz r | andz r =>
    cases r with
    | r0 => exact absurd h (by decide)
    | r1 | r2 | r3 => exact ⟨_, _, rfl, .one rfl⟩
  | eorz r | redc r | rrr r | iorz r | redd r | addz r | dar r | subz r | wrtc r | rrl r | comz r | wrtd r =>
    cases r <;> exact ⟨_, _, rfl, .one rfl⟩
  | retc v | rete v => cases v <;> exact ⟨_, _, rfl, .one rfl⟩
  | lodi r b | eori r b | andi r b | rede r b | iori r b | addi r b | subi r b | wrte r b | comi r b | tmi r b =>
    cases r <;> exact ⟨_, _, rfl, .two rfl b⟩
  | lodr r i d | eorr r i d | andr r i d | brnr r i d | iorr r i d | bsnr r i d | addr r i d | subr r i d | strr r i d
  | birr r i d | comr r i d | bdrr r i d => cases r <;> exact ⟨_, _, rfl, reads_rel rfl i d⟩
  | loda r i x a | eora r i x a | anda r i x a | iora r i x a | adda r i x a | suba r i x a | stra r i x a
  | coma r i x a => cases r <;> exact ⟨_, _, rfl, reads_idx rfl i x a⟩
  | brna r i a | bsna r i a | bira r i a | bdra r i a => cases r <;> exact ⟨_, _, rfl, reads_abs rfl i a⟩
  | bctr v i d | bstr v i d => cases v <;> exact ⟨_, _, rfl, reads_rel rfl i d⟩
  | bcta v i a | bsta v i a => cases v <;> exact ⟨_, _, rfl, reads_abs rfl i a⟩
  | bcfr v i d | bsfr v i d =>
    cases v with
    | un => exact absurd h (by simp [Instr.wellFormed])
    | eq | gt | lt => exact ⟨_, _, rfl, reads_rel rfl i d⟩
  | bcfa v i a | bsfa v i a =>
    cases v with
    | un => exact absurd h (by simp [Instr.wellFormed])
    | eq | gt | lt => exact ⟨_, _, rfl, reads_abs rfl i a⟩

/-! ### From the bytes to the instruction -/

/-- Whatever a template gives is well-formed and has the bytes that were read for its encoding. -/
def Template.Encodes (b0 : Byte) : Template → Prop
  | .one i => i.wellFormed = true ∧ encode i = [b0]
  | .two k => ∀ b1, (k b1).wellFormed = true ∧ encode (k b1) = [b0, b1]
  | .three k => ∀ b1 b2, (k b1 b2).wellFormed = true ∧ encode (k b1 b2) = [b0, b1, b2]

/-- Every first byte is a six-bit field and a two-bit field, each of which has its template. -/
theorem opByte_fields (b0 : Byte) : opByte (b0.extractLsb' 2 6) (b0.extractLsb' 0 2) = b0 := by
  revert b0
  decide

theorem Reg.ofCode_eq_iff {c : BitVec 2} {r : Reg} : Reg.ofCode c = r ↔ c = r.code :=
  ⟨fun h => by rw [← h, Reg.code_ofCode], fun h => by rw [h, Reg.ofCode_code]⟩

theorem Cond.ofCode_eq_iff {c : BitVec 2} {v : Cond} : Cond.ofCode c = v ↔ c = v.code :=
  ⟨fun h => by rw [← h, Cond.code_ofCode], fun h => by rw [h, Cond.ofCode_code]⟩

theorem eq_ofNat_of_toNat_eq {w n : Nat} {x : BitVec w} (h : x.toNat = n) : x = BitVec.ofNat w n := by
  rw [← h, BitVec.ofNat_toNat, BitVec.setWidth_eq]

/-- Every template answers for the byte it is the template of. The groups of four that hold full-byte opcodes (R120, R121)
name their members by the low two bits; in the others the low two bits are the register or condition field. -/
theorem template_encodes (b0 : Byte) : (template b0).Encodes b0 := by
  have hb : opByte (b0.extractLsb' 2 6) (b0.extractLsb' 0 2) = b0 := opByte_fields b0
  unfold template
  dsimp only
  generalize b0.extractLsb' 2 6 = op, b0.extractLsb' 0 2 = rr at hb ⊢
  subst hb
  split
  case h_64 =>
    have hop : op.toNat = 63 := by
      simp only [imp_false] at *
      omega
    simp [Template.Encodes, encode, Instr.wellFormed, eq_ofNat_of_toNat_eq hop]
  all_goals
    rename_i hop
    rw [eq_ofNat_of_toNat_eq hop]
  case h_5 | h_30 | h_37 | h_46 | h_50 =>
    split
    all_goals
      next hr => simp [Template.Encodes, encode, Instr.wellFormed, Reg.ofCode_eq_iff.mp hr, opByte, Reg.code]
  case h_1 | h_17 | h_49 =>
    split
    · next hr => simp [Template.Encodes, encode, Instr.wellFormed, Reg.ofCode_eq_iff.mp hr, opByte, Reg.code]
    · next hr => simpa [Template.Encodes, encode, Instr.wellFormed] using hr
  case h_39 | h_40 | h_47 | h_48 =>
    split
    · next hv => simp [Template.Encodes, encode, Instr.wellFormed, Cond.ofCode_eq_iff.mp hv, opByte, Cond.code]
    · next hv => simpa [Template.Encodes, encode, Instr.wellFormed] using hv
  all_goals simp [Template.Encodes, encode, Instr.wellFormed]

theorem Reads.encode {b0 : Byte} {bytes : List Byte} {i : Instr} (h : Reads b0 bytes i) :
    i.wellFormed = true ∧ Sys2Proof.encode i = b0 :: bytes := by
  have henc := template_encodes b0
  cases h with
  | one h =>
    rw [h] at henc
    exact henc
  | two h b1 =>
    rw [h] at henc
    exact henc b1
  | three h b1 b2 =>
    rw [h] at henc
    exact henc b1 b2

/-! ### Lengths -/

/-- The bytes a template stands for, byte 0 among them. -/
def Template.length : Template → Nat
  | .one _ => 1
  | .two _ => 2
  | .three _ => 3

theorem Reads.length {b0 : Byte} {bytes : List Byte} {i : Instr} (h : Reads b0 bytes i) :
    (template b0).length = bytes.length + 1 := by
  cases h with
  | one h | two h | three h => rw [h]; rfl

/-- The length rule of R93 on byte 0 is the number of bytes of its template. -/
theorem lengthOf_eq (b0 : Byte) : lengthOf b0 = if b0 ∈ undefinedBytes then none else some (template b0).length := by
  revert b0
  decide

/-- The undefined first bytes are one-byte rows of the table (30_encoding.md R122, R123). -/
theorem undefinedRows_reads : ∀ row ∈ Machine.undefinedRows, Reads row.2 [] row.1 := by
  intro row hrow
  simp only [Machine.undefinedRows, List.mem_cons, List.not_mem_nil, or_false] at hrow
  rcases hrow with rfl | rfl | rfl | rfl | rfl | rfl | rfl | rfl | rfl <;> exact .one rfl

end Sys2Proof

namespace Sys2Proof.Machine

theorem undefinedRows_refused (s : State) :
    ∀ row ∈ undefinedRows, exec row.1 s = .refused (.undefinedOpcode row.2) := by
  intro row hrow
  simp only [undefinedRows, List.mem_cons, List.not_mem_nil, or_false] at hrow
  rcases hrow with rfl | rfl | rfl | rfl | rfl | rfl | rfl | rfl | rfl <;> rfl

theorem exec_ldpl_plain (i : Bool) (a : Addr) {s : State} (h : s.cfg.variant = .p2650) :
    exec (.ldpl i a) s = .refused (.undefinedOpcode 0x10) := if_pos h

theorem exec_stpl_plain (i : Bool) (a : Addr) {s : State} (h : s.cfg.variant = .p2650) :
    exec (.stpl i a) s = .refused (.undefinedOpcode 0x11) := if_pos h

end Sys2Proof.Machine

namespace Sys2Proof.Proofs
open Sys2Proof.Machine

/-- Settles O1: the first byte of the encoding has a template that gives the instruction back. -/
theorem decodeOfEncode : Obligations.DecodeOfEncode := by
  intro i rest hwf
  obtain ⟨b0, bytes, henc, hreads⟩ := encode_reads i hwf
  rw [henc]
  exact hreads.decode rest

/-- Settles O2: the bytes the decoder takes are read by a template, and a template answers for its byte. -/
theorem encodeOfDecode : Obligations.EncodeOfDecode := by
  intro bytes rest i hdec
  obtain ⟨b0, taken, hbytes, hreads⟩ := reads_of_decode hdec
  obtain ⟨hwf, henc⟩ := hreads.encode
  exact ⟨hwf, by rw [henc, hbytes]⟩

/-- Settles O3: both numbers are the length of the template of byte 0. -/
theorem lengthIsThatOfByteZero : Obligations.LengthIsThatOfByteZero := by
  intro b0 n tail rest i hlen hdec
  obtain ⟨b, taken, hbytes, hreads⟩ := reads_of_decode hdec
  obtain ⟨rfl, htail⟩ : b0 = b ∧ tail = taken ++ rest := List.cons.inj hbytes
  have hn : (template b0).length = n := by
    rw [lengthOf_eq] at hlen
    split_ifs at hlen
    exact Option.some.inj hlen
  rw [List.length_cons, htail, List.length_append, ← hn, hreads.length]
  omega

/-- Settles O4: the decoder run on each word. -/
theorem writtenWordsDecode : Obligations.WrittenWordsDecode :=
  ⟨rfl, rfl, rfl, rfl, rfl, rfl, rfl, rfl, rfl, rfl, rfl, rfl⟩

/-- Settles O23: each undefined row is read from its byte alone and refused by name, and so are the two opcodes that the
plain 2650 lacks. -/
theorem undefinedBytesAreRefused : Obligations.UndefinedBytesAreRefused := by
  refine ⟨fun row hrow => ⟨?decodes, fun s => undefinedRows_refused s row hrow⟩, ?plain⟩
  case decodes => exact (undefinedRows_reads row hrow).decode
  case plain => exact fun i a s hplain => ⟨exec_ldpl_plain i a hplain, exec_stpl_plain i a hplain⟩

end Sys2Proof.Proofs
end

section
/-! Reads of memory and of the environment: what they may change, said once, and the operand forms of the arithmetic group
from the effect of their operation (40_load_store.md R140). -/

namespace Sys2Proof.Machine

/-! ### Accesses -/

/-- `u` is `s` but for what a read may change: the scripts, the outputs and the counter of free values. -/
def State.Accessed (s u : State) : Prop := u = { s with env := u.env, trace := u.trace, draws := u.draws }

theorem State.Accessed.refl (s : State) : s.Accessed s := rfl

theorem State.Accessed.trans {s u w : State} (h : s.Accessed u) (k : u.Accessed w) : s.Accessed w := by
  unfold State.Accessed at h k ⊢
  rw [h] at k
  exact k

theorem State.accessed_emit (s : State) (e : Event) : s.Accessed (s.emit e) := rfl

theorem State.accessed_drawReset (s : State) : s.Accessed s.drawReset.2 := by
  unfold State.drawReset
  split <;> rfl

theorem State.accessed_drawIntReq (s : State) : s.Accessed s.drawIntReq.2 := by
  unfold State.drawIntReq
  split <;> rfl

theorem State.accessed_drawIntVector (s : State) : s.Accessed s.drawIntVector.2 := by
  unfold State.drawIntVector
  split <;> rfl

theorem State.accessed_drawSense (s : State) : s.Accessed s.drawSense.2 := by
  unfold State.drawSense
  split <;> rfl

theorem State.accessed_drawIoRead (s : State) : s.Accessed s.drawIoRead.2 := by
  unfold State.drawIoRead
  split <;> rfl

theorem State.accessed_drawMemRead (s : State) : s.Accessed s.drawMemRead.2 := by
  unfold State.drawMemRead
  split <;> rfl

theorem State.accessed_ioRead (s : State) (space : IoSpace) : s.Accessed (s.ioRead space).2 :=
  (s.accessed_emit _).trans (State.accessed_drawIoRead _)

theorem State.accessed_memRead (s : State) (a : Addr) : s.Accessed (s.memRead a).2 := by
  unfold State.memRead
  split
  · exact .refl s
  · exact .refl s
  · exact (s.accessed_emit _).trans (State.accessed_drawMemRead _)
  · exact s.accessed_drawMemRead

theorem State.accessed_readPtr (s : State) (p : Addr) : s.Accessed (s.readPtr p).2 :=
  (s.accessed_memRead p).trans (State.accessed_memRead _ _)

theorem State.accessed_resolve (s : State) (i : Bool) (p : Addr) : s.Accessed (s.resolve i p).2 := by
  cases i with
  | false => exact .refl s
  | true => exact s.accessed_readPtr p

theorem State.accessed_eaR (s : State) (i : Bool) (d : Disp) : s.Accessed (s.eaR i d).2 := s.accessed_resolve i _

theorem State.accessed_eaB (s : State) (i : Bool) (a : Addr) : s.Accessed (s.eaB i a).2 := s.accessed_resolve i a

theorem State.accessed_eaZ0 (s : State) (i : Bool) (d : Disp) : s.Accessed (s.eaZ0 i d).2 := s.accessed_resolve i _

section
variable {s u : State}

theorem State.Accessed.view (h : s.Accessed u) : u.view = s.view.accessed u := by rw [h]; rfl

theorem State.Accessed.cell (h : s.Accessed u) : u.cell = s.cell := by rw [h]; rfl

theorem State.Accessed.x (h : s.Accessed u) (r : Reg) : u.x r = s.x r := by rw [h]; rfl

theorem State.Accessed.getReg (h : s.Accessed u) (r : Reg) : u.getReg r = s.getReg r := by rw [h]; rfl

theorem State.Accessed.psl (h : s.Accessed u) : u.psl = s.psl := by rw [h]

theorem State.Accessed.psu (h : s.Accessed u) : u.psu = s.psu := by rw [h]

theorem State.Accessed.pc (h : s.Accessed u) : u.pc = s.pc := by rw [h]

theorem State.Accessed.ras (h : s.Accessed u) : u.ras = s.ras := by rw [h]

theorem State.Accessed.sp (h : s.Accessed u) : u.sp = s.sp := by rw [h]; rfl

theorem State.Accessed.waiting (h : s.Accessed u) : u.waiting = s.waiting := by rw [h]

theorem State.Accessed.mem (h : s.Accessed u) : u.mem = s.mem := by rw [h]

theorem State.Accessed.cfg (h : s.Accessed u) : u.cfg = s.cfg := by rw [h]

theorem State.Accessed.cycles (h : s.Accessed u) : u.cycles = s.cycles := by rw [h]

end

/-! ### Formats Z and R -/

theorem cyclesOf_eq (direct : Nat) (i : Bool) : cyclesOf direct i = direct + indCycles i := by
  cases i <;> rfl

/-- An operation after accesses: its effect is that on the state before them. -/
theorem HasEffect.view_accessed {f : Reg → Byte → State → State} {eff : Psl → Byte → Byte → Byte × Psl}
    (hf : HasEffect f eff) {s u : State} (h : s.Accessed u) (r : Reg) (m : Byte) :
    (f r m u).view =
      { s.view.accessed u with
        cell := setCell s.cell s.psl.rs r (eff s.psl (s.x r) m).1, psl := (eff s.psl (s.x r) m).2 } := by
  rw [hf, h.view, h.cell, h.psl, h.x]

theorem runsZ_of_hasEffect {ins : Reg → Instr} {f : Reg → Byte → State → State}
    {eff : Psl → Byte → Byte → Byte × Psl} {r : Reg} {s : State} (hexec : exec (ins r) s = formZ f r s)
    (hf : HasEffect f eff) : RunsZ ins eff r s := by
  refine ⟨_, hexec, ?_⟩
  rw [State.retire_view, hf, State.getReg_eq_x]
  rfl

theorem runsR_of_hasEffect {ins : Reg → Bool → Disp → Instr} {f : Reg → Byte → State → State}
    {eff : Psl → Byte → Byte → Byte × Psl} (hexec : ∀ r i d s, exec (ins r i d) s = formR f r i d s)
    (hf : HasEffect f eff) : RunsR ins eff := by
  intro r i d s
  have hacc : s.Accessed ((s.eaR i d).2.memRead (s.eaR i d).1).2 :=
    (s.accessed_eaR i d).trans (State.accessed_memRead _ _)
  refine ⟨_, (hexec r i d s).trans (formR_eq f r i d s), ?_⟩
  rw [State.retire_view, hf.view_accessed hacc, cyclesOf_eq]
  rfl

/-! ### The effective address of format A (30_encoding.md R105, R106) -/

theorem State.cell_stepIndex (s : State) (r : Reg) (x : IndexCtl) : (s.stepIndex r x).cell = s.stepped r x := by
  cases x with
  | none | plain => rfl
  | inc | dec => exact (s.cell_setReg r _).trans (by rw [State.getReg_eq_x]; rfl)

theorem State.stepIndex_view (s : State) (r : Reg) (x : IndexCtl) :
    (s.stepIndex r x).view = { s.view with cell := s.stepped r x } := by
  rw [← State.cell_stepIndex]
  cases x with
  | none | plain => rfl
  | inc | dec => exact (s.setReg_view r _).trans (by rw [← State.cell_setReg]; rfl)

theorem State.x_stepIndex (s : State) (r q : Reg) (x : IndexCtl) :
    (s.stepIndex r x).x q = s.stepped r x s.psl.rs q := by
  rw [State.x, State.cell_stepIndex, State.stepIndex_psl]

theorem State.addrA_eq_addressAt (s : State) (a : Offset) : s.addrA a = addressAt (page s.pc).toNat a.toNat := by
  rw [addressAt_eq_append, BitVec.ofInt_natCast, BitVec.ofNat_toNat, BitVec.setWidth_eq]
  rfl

theorem State.baseA_eq_baseOf (s : State) (r : Reg) (i : Bool) (x : IndexCtl) (a : Offset) :
    s.baseA r i x a = s.baseOf r i x a := by
  rw [State.baseA, State.baseOf, State.addrA_eq_addressAt]

theorem State.accessed_baseOf (s : State) (r : Reg) (i : Bool) (x : IndexCtl) (a : Offset) :
    (s.stepIndex r x).Accessed (s.baseOf r i x a).2 := State.accessed_resolve _ i _

/-- The index of an index addition is a number of eight bits. -/
theorem inpage_setWidth (base : Addr) (b : Byte) :
    inpage base (b.setWidth 13) = addressAt (page base).toNat ((off base).toNat + b.toNat) := by
  rw [← inpage_ofInt, BitVec.ofInt_natCast, BitVec.ofNat_toNat]

theorem State.baseOf_getReg (s : State) (r : Reg) (i : Bool) (x : IndexCtl) (a : Offset) :
    (s.baseOf r i x a).2.getReg r = s.stepped r x s.psl.rs r := by
  rw [(s.accessed_baseOf r i x a).getReg, State.getReg_eq_x, State.x_stepIndex]

theorem State.baseOf_cfg (s : State) (r : Reg) (i : Bool) (x : IndexCtl) (a : Offset) :
    (s.baseOf r i x a).2.cfg = s.cfg :=
  (s.accessed_baseOf r i x a).cfg.trans (s.stepIndex_cfg r x)

/-- The address, the operand register and the state that `EA_A` ends in, where the index addition is allowed. -/
theorem State.eaA_of_fits {s : State} {r : Reg} {i : Bool} {x : IndexCtl} {a : Offset} (h : s.indexFits r i x a) :
    s.eaA r i x a = .next (s.eaOf r i x a, operandReg r x, (s.baseOf r i x a).2) := by
  by_cases hx : x = .none
  · subst hx
    rw [State.eaA_none, State.baseA_eq_baseOf]
    rfl
  · rw [State.eaA_indexed s r i a hx, State.baseA_eq_baseOf, State.baseOf_getReg, State.addIndex_fits]
    · rw [inpage_setWidth, andThen_next, State.eaOf, operandReg, if_neg hx, if_neg hx]
    · rintro ⟨hrefuse, hcross⟩
      rw [State.baseOf_cfg] at hrefuse
      rcases h with h | h | h
      · exact hx h
      · rw [h] at hrefuse
        cases hrefuse
      · omega

/-- And where it is not (20_memory.md R69). -/
theorem State.eaA_of_not_fits {s : State} {r : Reg} {i : Bool} {x : IndexCtl} {a : Offset}
    (h : ¬ s.indexFits r i x a) : s.eaA r i x a = .refused .indexCrossesPage := by
  obtain ⟨hx, hwrap, hcross⟩ : x ≠ .none ∧ s.cfg.indexWrap ≠ .wrap ∧
      ¬ (off (s.baseOf r i x a).1).toNat + (s.stepped r x s.psl.rs r).toNat ≤ 8191 := by
    simpa only [State.indexFits, not_or] using h
  have hrefuse : s.cfg.indexWrap = .refuse := by
    cases hw : s.cfg.indexWrap with
    | wrap => exact absurd hw hwrap
    | refuse => rfl
  rw [State.eaA_indexed s r i a hx, State.baseA_eq_baseOf, State.baseOf_getReg, State.addIndex_crosses,
    andThen_refused]
  exact ⟨by rw [State.baseOf_cfg, hrefuse], by omega⟩

/-- The same two cases for the indexed branches (30_encoding.md R109). -/
theorem State.eaX_of_fits {s : State} {i : Bool} {a : Addr} (h : s.branchFits i a) :
    s.eaX i a = .next (s.eaIndexed i a, (s.eaB i a).2) := by
  have hacc := s.accessed_eaB i a
  unfold State.eaX
  dsimp only
  rw [hacc.getReg, State.getReg_eq_x, State.addIndex_fits]
  · rw [inpage_setWidth, andThen_next, State.eaIndexed]
  · rintro ⟨hrefuse, hcross⟩
    rw [hacc.cfg] at hrefuse
    rcases h with h | h
    · rw [h] at hrefuse
      cases hrefuse
    · omega

theorem State.eaX_of_not_fits {s : State} {i : Bool} {a : Addr} (h : ¬ s.branchFits i a) :
    s.eaX i a = .refused .indexCrossesPage := by
  have hacc := s.accessed_eaB i a
  obtain ⟨hwrap, hcross⟩ : s.cfg.indexWrap ≠ .wrap ∧ ¬ (off (s.eaB i a).1).toNat + (s.x .r3).toNat ≤ 8191 := by
    simpa only [State.branchFits, not_or] using h
  have hrefuse : s.cfg.indexWrap = .refuse := by
    cases hw : s.cfg.indexWrap with
    | wrap => exact absurd hw hwrap
    | refuse => rfl
  unfold State.eaX
  dsimp only
  rw [hacc.getReg, State.getReg_eq_x, State.addIndex_crosses, andThen_refused]
  exact ⟨by rw [hacc.cfg, hrefuse], by omega⟩

/-! ### Format A -/

theorem formA_of_fits {f : Reg → Byte → State → State} {r : Reg} {i : Bool} {x : IndexCtl} {a : Offset} {s : State}
    (h : s.indexFits r i x a) :
    formA f r i x a s =
      let m := (s.baseOf r i x a).2.memRead (s.eaOf r i x a)
      .next ((f (operandReg r x) m.1 m.2).retire 3 (4 + indCycles i)) := by
  rw [formA, State.eaA_of_fits h, andThen_next]

theorem formA_of_not_fits {f : Reg → Byte → State → State} {r : Reg} {i : Bool} {x : IndexCtl} {a : Offset}
    {s : State} (h : ¬ s.indexFits r i x a) : formA f r i x a s = .refused .indexCrossesPage := by
  rw [formA, State.eaA_of_not_fits h, andThen_refused]

theorem runsA_of_hasEffect {ins : Reg → Bool → IndexCtl → Offset → Instr} {f : Reg → Byte → State → State}
    {eff : Psl → Byte → Byte → Byte × Psl} (hexec : ∀ r i x a s, exec (ins r i x a) s = formA f r i x a s)
    (hf : HasEffect f eff) : RunsA ins eff := by
  intro r i x a s hfits
  have hacc : (s.stepIndex r x).Accessed ((s.baseOf r i x a).2.memRead (s.eaOf r i x a)).2 :=
    (s.accessed_baseOf r i x a).trans (State.accessed_memRead _ _)
  refine ⟨_, (hexec r i x a s).trans (formA_of_fits hfits), ?_⟩
  rw [State.retire_view, hf.view_accessed hacc, State.stepIndex_view, State.cell_stepIndex, State.stepIndex_psl,
    State.x_stepIndex, cyclesOf_eq]
  rfl

end Sys2Proof.Machine
end

section
/-! The operations of the arithmetic group against the effects of 40_load_store.md to 45_compare.md: loads, add and
subtract, the logical operations, compare; and the index additions that are refused. -/

namespace Sys2Proof.Machine

/-! ### Add and subtract (41_arithmetic.md) -/

theorem toInt_eq_ite (v : Byte) : v.toInt = if v.toNat < 128 then (v.toNat : Int) else v.toNat - 256 := by
  rw [BitVec.toInt_eq_toNat_cond]
  split_ifs <;> omega

theorem getLsbD_seven_eq_decide (v : Byte) : v.getLsbD 7 = decide (128 ≤ v.toNat) := by
  rw [Bool.eq_iff_iff, getLsbD_seven_iff, decide_eq_true_iff]

/-- OVF of the adder: the sum of the two signed numbers and the carry that enters is no signed byte (R153). -/
theorem adder_ovf (a b : Byte) (cin : Bool) :
    (adder a b cin).ovf =
      decide (a.toInt + b.toInt + cin.toNat > 127 ∨ a.toInt + b.toInt + cin.toNat < -128) := by
  have ha := a.isLt
  have hb := b.isLt
  have hc : cin.toNat ≤ 1 := cin.toNat_le
  rw [Bool.eq_iff_iff]
  simp only [adder, getLsbD_seven_eq_decide, toInt_eq_ite, BitVec.toNat_ofNat, Bool.and_eq_true, beq_iff_eq,
    bne_iff_ne, ne_eq, decide_eq_decide, decide_eq_true_iff]
  split_ifs <;> omega

/-- The frame of an arithmetic result: the register, C, IDC, OVF and CC (R154). -/
theorem State.writeAlu_view (r : Reg) (y : Alu) (s : State) :
    (State.writeAlu r y s).view =
      { s.view with
        cell := setCell s.cell s.psl.rs r y.res
        psl := { s.psl with c := y.c, idc := y.idc, ovf := y.ovf, cc := signCode y.res } } := by
  rw [State.writeAlu, State.setCC_view, State.setArith_psl, State.setReg_psl, ccOf_eq_signCode, State.setArith,
    State.setPsl_view, State.setReg_view]

theorem addAlu_eq (p : Psl) (a m : Byte) :
    let y := addAlu p.wc p.c a m
    addEffect p a m = (y.res, { p with c := y.c, idc := y.idc, ovf := y.ovf, cc := signCode y.res }) := by
  have hcin : (if p.wc = true ∧ p.c = true then 1 else 0) = (if p.wc then p.c else false).toNat := by
    cases p.wc <;> cases p.c <;> rfl
  simp only [addEffect, addAlu, adder_ovf, hcin]
  rfl

/-- The subtrahend complemented: subtracting with the borrow that is the carry's opposite (R152). -/
theorem subAlu_eq (p : Psl) (a m : Byte) :
    let y := subAlu p.wc p.c a m
    subEffect p a m = (y.res, { p with c := y.c, idc := y.idc, ovf := y.ovf, cc := signCode y.res }) := by
  have hbin : (if p.wc = true ∧ ¬ p.c = true then 1 else 0 : Int) = 1 - (if p.wc then p.c else true).toNat := by
    cases p.wc <;> cases p.c <;> rfl
  have hnot : (~~~m).toNat = 255 - m.toNat := BitVec.toNat_not
  have hnotInt : (~~~m).toInt = -1 - m.toInt := by
    have := m.isLt
    simp only [toInt_eq_ite, hnot]
    split_ifs <;> omega
  have hm := m.isLt
  have ha := a.isLt
  have hres : BitVec.ofInt 8 ((a.toNat : Int) - m.toNat - (1 - ((if p.wc then p.c else true).toNat : Int))) =
      (subAlu p.wc p.c a m).res := by
    apply BitVec.eq_of_toNat_eq
    simp only [subAlu, adder, hnot, BitVec.toNat_ofInt, BitVec.toNat_ofNat]
    omega
  have hc : (if p.wc then p.c else true).toNat ≤ 1 := Bool.toNat_le _
  simp only [subEffect, hbin, hres]
  simp only [subAlu, adder_ovf, hnotInt]
  simp only [adder, hnot, Prod.mk.injEq, true_and, Psl.mk.injEq, decide_eq_decide]
  omega

theorem addOp_hasEffect : HasEffect State.addOp addEffect := by
  intro r m s
  rw [State.addOp, State.writeAlu_view, addAlu_eq, State.getReg_eq_x]

theorem subOp_hasEffect : HasEffect State.subOp subEffect := by
  intro r m s
  rw [State.subOp, State.writeAlu_view, subAlu_eq, State.getReg_eq_x]

/-! ### Logical operations (42_logical.md) -/

theorem State.writeLogic_view (r : Reg) (v : Byte) (s : State) :
    (State.writeLogic r v s).view =
      { s.view with cell := setCell s.cell s.psl.rs r v, psl := { s.psl with cc := signCode v } } := by
  rw [State.writeLogic, State.setCC_view, State.setReg_psl, State.setReg_view, ccOf_eq_signCode]

/-- An operation on bytes that is `g` on each of the eight bits is the logical effect of `g` (R165). -/
theorem writeLogic_hasEffect {op : Byte → Byte → Byte} {g : Bool → Bool → Bool}
    (hop : ∀ (a m : Byte) (k : Fin 8), (op a m).getLsbD k = g (a.getLsbD k) (m.getLsbD k)) :
    HasEffect (fun r m s => State.writeLogic r (op (s.getReg r) m) s) (logicEffect g) := by
  intro r m s
  have hbits : op (s.x r) m = BitVec.ofFnLE fun k : Fin 8 => g ((s.x r).getLsbD k) (m.getLsbD k) := by
    apply BitVec.eq_of_getLsbD_eq
    intro k hk
    rw [BitVec.getLsbD_ofFnLE, dif_pos hk]
    exact hop _ _ ⟨k, hk⟩
  rw [State.writeLogic_view, State.getReg_eq_x, hbits]
  rfl

theorem iorOp_hasEffect : HasEffect State.iorOp (logicEffect fun a b => a || b) :=
  writeLogic_hasEffect (op := (· ||| ·)) fun _ _ _ => BitVec.getLsbD_or

theorem eorOp_hasEffect : HasEffect State.eorOp (logicEffect fun a b => a != b) :=
  writeLogic_hasEffect (op := (· ^^^ ·)) fun _ _ _ => BitVec.getLsbD_xor

theorem andOp_hasEffect : HasEffect State.andOp (logicEffect fun a b => a && b) :=
  writeLogic_hasEffect (op := (· &&& ·)) fun _ _ _ => BitVec.getLsbD_and

/-! ### Compare (45_compare.md) -/

theorem compareCC_eq_orderCode (com : Bool) (a b : Byte) :
    compareCC com a b = if com then orderCode a.toNat b.toNat else orderCode a.toInt b.toInt := by
  cases com <;> rfl

/-- A compare writes no register: the effect gives the register its own value back. -/
theorem setCell_self (s : State) (r : Reg) : setCell s.cell s.psl.rs r (s.x r) = s.cell := by
  funext b q
  unfold setCell
  split_ifs with h
  · obtain ⟨rfl, hreach⟩ := h
    rw [State.cell_of_reached hreach, State.getReg_eq_x]
  · rfl

theorem compareOp_hasEffect : HasEffect State.compareOp compareEffect := by
  intro r m s
  rw [State.compareOp, State.setCC_view, State.getReg_eq_x, compareCC_eq_orderCode, compareEffect, setCell_self]
  rfl

/-! ### The refused index additions (20_memory.md R69) -/

theorem exec_stra (r : Reg) (i : Bool) (x : IndexCtl) (a : Offset) (s : State) :
    exec (.stra r i x a) s =
      andThen (s.eaA r i x a) fun e =>
        .next ((e.2.2.memWrite e.1 (e.2.2.getReg e.2.1)).retire 3 (4 + indCycles i)) := rfl

theorem exec_bxa (i : Bool) (a : Addr) (s : State) :
    exec (.bxa i a) s = andThen (s.eaX i a) fun e => .next (e.2.jump e.1 (3 + indCycles i)) := rfl

theorem exec_bsxa (i : Bool) (a : Addr) (s : State) :
    exec (.bsxa i a) s = andThen (s.eaX i a) fun e => .next (e.2.call 3 e.1 (3 + indCycles i)) := rfl

end Sys2Proof.Machine

namespace Sys2Proof.Proofs
open Sys2Proof.Machine

/-- Settles O24: the refusal of `EA_A` and of `EA_X` is that of the instruction. -/
theorem crossingIndexIsRefused : Obligations.CrossingIndexIsRefused := by
  refine ⟨?formatA, ?branches⟩
  case formatA =>
    intro ins hins r i x a s hcross
    simp only [List.mem_cons, List.not_mem_nil, or_false] at hins
    rcases hins with rfl | rfl | rfl | rfl | rfl | rfl | rfl | rfl
    case inr.inl => rw [exec_stra, State.eaA_of_not_fits hcross, andThen_refused]
    all_goals exact formA_of_not_fits hcross
  case branches =>
    intro ins hins i a s hcross
    simp only [List.mem_cons, List.not_mem_nil, or_false] at hins
    rcases hins with rfl | rfl
    · rw [exec_bxa, State.eaX_of_not_fits hcross, andThen_refused]
    · rw [exec_bsxa, State.eaX_of_not_fits hcross, andThen_refused]

/-- Settles O39: the loads are their formats over the load operation; STRZ is a load of r0 into another register. -/
theorem loadFromRegisterOrMemory : Obligations.LoadFromRegisterOrMemory := by
  refine ⟨fun r s hr => ⟨?lodz, ?strz⟩, ?lodr, ?loda⟩
  case lodz => exact runsZ_of_hasEffect (if_neg hr) loadOp_hasEffect
  case strz =>
    refine ⟨(State.loadOp r s.r0 s).retire 1 2, if_neg hr, ?_⟩
    rw [State.retire_view, loadOp_hasEffect]
    rfl
  case lodr => exact runsR_of_hasEffect (fun _ _ _ _ => rfl) loadOp_hasEffect
  case loda => exact runsA_of_hasEffect (fun _ _ _ _ _ => rfl) loadOp_hasEffect

/-- Settles O42: the four formats over the add, whose OVF is `adder_ovf`. -/
theorem addSumAndFlags : Obligations.AddSumAndFlags :=
  ⟨fun _ _ => runsZ_of_hasEffect rfl addOp_hasEffect, runsI_of_hasEffect (fun _ _ _ => rfl) addOp_hasEffect,
    runsR_of_hasEffect (fun _ _ _ _ => rfl) addOp_hasEffect, runsA_of_hasEffect (fun _ _ _ _ _ => rfl) addOp_hasEffect⟩

/-- Settles O43: the four formats over the subtract, an add of the complement. -/
theorem subtractDifferenceAndFlags : Obligations.SubtractDifferenceAndFlags :=
  ⟨fun _ _ => runsZ_of_hasEffect rfl subOp_hasEffect, runsI_of_hasEffect (fun _ _ _ => rfl) subOp_hasEffect,
    runsR_of_hasEffect (fun _ _ _ _ => rfl) subOp_hasEffect, runsA_of_hasEffect (fun _ _ _ _ _ => rfl) subOp_hasEffect⟩

/-- Settles O44: the formats over the three operations, each bit by bit. -/
theorem logicBitByBit : Obligations.LogicBitByBit := by
  refine ⟨fun r s => ⟨runsZ_of_hasEffect rfl iorOp_hasEffect, runsZ_of_hasEffect rfl eorOp_hasEffect, ?andz⟩, ?formats⟩
  case andz => exact fun hr => runsZ_of_hasEffect (if_neg hr) andOp_hasEffect
  case formats =>
    exact ⟨runsI_of_hasEffect (fun _ _ _ => rfl) iorOp_hasEffect,
      runsR_of_hasEffect (fun _ _ _ _ => rfl) iorOp_hasEffect,
      runsA_of_hasEffect (fun _ _ _ _ _ => rfl) iorOp_hasEffect,
      runsI_of_hasEffect (fun _ _ _ => rfl) eorOp_hasEffect,
      runsR_of_hasEffect (fun _ _ _ _ => rfl) eorOp_hasEffect,
      runsA_of_hasEffect (fun _ _ _ _ _ => rfl) eorOp_hasEffect,
      runsI_of_hasEffect (fun _ _ _ => rfl) andOp_hasEffect,
      runsR_of_hasEffect (fun _ _ _ _ => rfl) andOp_hasEffect,
      runsA_of_hasEffect (fun _ _ _ _ _ => rfl) andOp_hasEffect⟩

/-- Settles O45: the four formats over the compare, whose effect leaves the register as it is. -/
theorem compareOrder : Obligations.CompareOrder :=
  ⟨fun _ _ => runsZ_of_hasEffect rfl compareOp_hasEffect, runsI_of_hasEffect (fun _ _ _ => rfl) compareOp_hasEffect,
    runsR_of_hasEffect (fun _ _ _ _ => rfl) compareOp_hasEffect,
    runsA_of_hasEffect (fun _ _ _ _ _ => rfl) compareOp_hasEffect⟩

end Sys2Proof.Proofs
end

section
/-! Status word, ports, rotates, HALT: each instruction as one write of the state after its accesses, and the view of each
such write. -/

namespace Sys2Proof.Machine

/-! ### Loads, CC and PSL after accesses -/

/-- An instruction that ends in a load of `v` into `r` after accesses. -/
theorem runs_of_loadOp {ins : Instr} {s u : State} {r : Reg} {v : Byte} {len : Offset} {cyc : Nat}
    (hexec : exec ins s = .next ((State.loadOp r v u).retire len cyc)) (h : s.Accessed u) :
    Runs ins s
      { s.view.accessed u with
        cell := setCell s.cell s.psl.rs r v, psl := { s.psl with cc := signCode v }
        pc := inpage s.pc len, cycles := s.cycles + cyc } := by
  refine ⟨_, hexec, ?_⟩
  rw [State.retire_view, loadOp_hasEffect.view_accessed h]
  rfl

/-- An instruction that ends in a write of PSL after accesses. -/
theorem runs_of_setPsl_accessed {ins : Instr} {s u : State} {p : Psl} {len : Offset} {cyc : Nat}
    (hexec : exec ins s = .next ((u.setPsl p).retire len cyc)) (h : s.Accessed u) :
    Runs ins s { s.view.accessed u with psl := p, pc := inpage s.pc len, cycles := s.cycles + cyc } := by
  refine ⟨_, hexec, ?_⟩
  rw [State.retire_view, State.setPsl_view, h.view]
  rfl

/-- An instruction that ends in a write of CC after accesses. -/
theorem runs_of_setCC {ins : Instr} {s u : State} {cc : BitVec 2} {len : Offset} {cyc : Nat}
    (hexec : exec ins s = .next ((u.setCC cc).retire len cyc)) (h : s.Accessed u) :
    Runs ins s
      { s.view.accessed u with
        psl := { s.psl with cc := cc }, pc := inpage s.pc len, cycles := s.cycles + cyc } := by
  rw [State.setCC, h.psl] at hexec
  exact runs_of_setPsl_accessed hexec h

/-! ### PSU -/

/-- The frame of a write of PSU: the bits selected, and the FLAG pin told if F is one of them (10_state.md R36). -/
theorem State.selectPsu_view (s : State) (sel v : Byte) :
    (s.selectPsu sel v).view =
      { s.view with
        psu := putPsu s.psu sel v
        trace := s.trace ++ (if sel.getLsbD 6 then [.flagPin (v.getLsbD 6)] else []) } := by
  unfold State.selectPsu
  dsimp only
  split_ifs with hsel
  · have hflag : (s.setPsu (putPsu s.psu sel v)).flag = v.getLsbD 6 := by
      have hmask : psuMask.getLsbD 6 = true := by decide
      rw [State.flag, State.setPsu_psu, putPsu_getLsbD, hsel, hmask]
      rfl
    rw [hflag]
    rfl
  · rw [List.append_nil]
    rfl

/-- An instruction that is one write of PSU. -/
theorem runs_of_selectPsu {ins : Instr} {s : State} {sel v : Byte} {len : Offset} {cyc : Nat}
    (hexec : exec ins s = .next ((s.selectPsu sel v).retire len cyc)) :
    Runs ins s
      { s.view with
        psu := putPsu s.psu sel v, pc := inpage s.pc len, cycles := s.cycles + cyc
        trace := s.trace ++ (if sel.getLsbD 6 then [.flagPin (v.getLsbD 6)] else []) } := by
  refine ⟨_, hexec, ?_⟩
  rw [State.retire_view, State.selectPsu_view]
  rfl

theorem exec_lpsu (s : State) : exec .lpsu s = .next ((s.selectPsu 0xFF s.r0).retire 1 2) := rfl

theorem exec_cpsu (m : Byte) (s : State) : exec (.cpsu m) s = .next ((s.selectPsu m 0x00).retire 2 3) := rfl

theorem exec_ppsu (m : Byte) (s : State) : exec (.ppsu m) s = .next ((s.selectPsu m 0xFF).retire 2 3) := rfl

/-- All writable bits loaded (47_psw.md R241). -/
theorem putPsu_all (psu v : Byte) : putPsu psu 0xFF v = (psu &&& 0b10011000#8) ||| (v &&& 0b01100111#8) := by
  have hkept : ~~~((0xFF : Byte) &&& psuMask) = 0b10011000#8 := by decide
  have hloaded : (0xFF : Byte) &&& psuMask = 0b01100111#8 := by decide
  rw [putPsu, hkept, hloaded]

/-- Bits cleared (R245). -/
theorem putPsu_clear (psu sel : Byte) : putPsu psu sel 0x00 = psu &&& ~~~(sel &&& 0b01100111#8) := by
  simp [putPsu, psuMask]

/-- Bits set (R247). -/
theorem putPsu_preset (psu sel : Byte) : putPsu psu sel 0xFF = psu ||| (sel &&& 0b01100111#8) := by
  apply BitVec.eq_of_getLsbD_eq
  intro k hk
  have hones : (0xFF : Byte).getLsbD k = true := by
    interval_cases k <;> rfl
  rw [putPsu_getLsbD, BitVec.getLsbD_or, BitVec.getLsbD_and, hones]
  change _ = (psu.getLsbD k || sel.getLsbD k && psuMask.getLsbD k)
  cases sel.getLsbD k && psuMask.getLsbD k <;> simp

/-- The byte SPSU and TPSU see (R240). -/
theorem psuView_eq (pin : Bool) (psu : Byte) :
    psuView pin psu = (if pin then 0x80#8 else 0x00#8) ||| (psu &&& 0b01100111#8) := by
  revert pin psu
  decide

theorem State.psuView_drawSense (s : State) :
    psuView s.drawSense.1 s.drawSense.2.psu = s.psuSeen s.drawSense.1 := by
  rw [psuView_eq, State.drawSense_psu]
  rfl

theorem exec_spsu (s : State) :
    exec .spsu s =
      .next ((State.loadOp .r0 (psuView s.drawSense.1 s.drawSense.2.psu) s.drawSense.2).retire 1 2) := rfl

theorem exec_spsl (s : State) : exec .spsl s = .next ((State.loadOp .r0 s.psl.toByte s).retire 1 2) := rfl

/-! ### Tests under a mask (47_psw.md R249, R252, 48_rotate_misc.md R264) -/

/-- A byte under a mask is the mask exactly if every selected bit is one. -/
theorem and_eq_mask_iff (v m : Byte) :
    v &&& m = m ↔ ∀ k : Fin 8, m.getLsbD k = true → v.getLsbD k = true := by
  constructor
  · intro h k hk
    rw [← h, BitVec.getLsbD_and] at hk
    exact (Bool.and_eq_true_iff.mp hk).1
  · intro h
    apply BitVec.eq_of_getLsbD_eq
    intro k hk
    rw [BitVec.getLsbD_and]
    cases hm : m.getLsbD k with
    | false => exact Bool.and_false _
    | true => exact Bool.and_eq_true_iff.mpr ⟨h ⟨k, hk⟩ hm, rfl⟩

theorem testCC_eq (v m : Byte) :
    testCC v m = if ∀ k : Fin 8, m.getLsbD k = true → v.getLsbD k = true then 0b00#2 else 0b10#2 :=
  if_congr (and_eq_mask_iff v m) rfl rfl

theorem exec_tpsu (m : Byte) (s : State) :
    exec (.tpsu m) s =
      .next ((s.drawSense.2.setCC (testCC (psuView s.drawSense.1 s.drawSense.2.psu) m)).retire 2 3) := rfl

theorem exec_tpsl (m : Byte) (s : State) :
    exec (.tpsl m) s = .next ((s.setCC (testCC s.psl.toByte m)).retire 2 3) := rfl

theorem exec_tmi (r : Reg) (m : Byte) (s : State) :
    exec (.tmi r m) s = .next ((s.setCC (testCC (s.x r) m)).retire 2 3) := by
  rw [← State.getReg_eq_x]
  rfl

/-! ### Rotates and decimal adjust (48_rotate_misc.md) -/

theorem State.rotateOp_eq (s : State) (r : Reg) (res8 : Byte) (res9 : Alu) :
    s.rotateOp r res8 res9 = if s.psl.wc then State.writeAlu r res9 s else State.loadOp r res8 s := rfl

/-- The 8-bit rotates as arithmetic (R260, R261). -/
theorem rotLeft8_eq (v : Byte) : rotLeft8 v = BitVec.ofNat 8 (v.toNat * 2 + v.toNat / 128) := by
  revert v
  decide

theorem rotRight8_eq (v : Byte) : rotRight8 v = BitVec.ofNat 8 (v.toNat / 2 + v.toNat % 2 * 128) := by
  revert v
  decide

/-- The 9-bit rotates as arithmetic, with the bits their flags come from. -/
theorem rotLeft9_eq (c : Bool) (v : Byte) :
    rotLeft9 c v =
      { res := BitVec.ofNat 8 (v.toNat * 2 + c.toNat), c := decide (128 ≤ v.toNat), idc := v.getLsbD 4
        ovf := v.getLsbD 6 != v.getLsbD 7 } := by
  revert c v
  decide

theorem rotRight9_eq (c : Bool) (v : Byte) :
    rotRight9 c v =
      { res := BitVec.ofNat 8 (v.toNat / 2 + c.toNat * 128), c := decide (v.toNat % 2 = 1), idc := v.getLsbD 6
        ovf := c != v.getLsbD 7 } := by
  revert c v
  decide

theorem exec_rrl (r : Reg) (s : State) :
    exec (.rrl r) s = .next ((s.rotateOp r (rotLeft8 (s.x r)) (rotLeft9 s.psl.c (s.x r))).retire 1 2) := by
  rw [← State.getReg_eq_x]
  rfl

theorem exec_rrr (r : Reg) (s : State) :
    exec (.rrr r) s = .next ((s.rotateOp r (rotRight8 (s.x r)) (rotRight9 s.psl.c (s.x r))).retire 1 2) := by
  rw [← State.getReg_eq_x]
  rfl

/-- A rotate with WC 0 is a load of the rotated byte. -/
theorem runs_of_rotateOp_wc_false {ins : Instr} {s : State} {r : Reg} {res8 : Byte} {res9 : Alu}
    (hexec : exec ins s = .next ((s.rotateOp r res8 res9).retire 1 2)) (hwc : s.psl.wc = false) :
    Runs ins s
      { s.view with
        cell := setCell s.cell s.psl.rs r res8, psl := { s.psl with cc := signCode res8 }
        pc := inpage s.pc 1, cycles := s.cycles + 2 } := by
  rw [State.rotateOp_eq, hwc] at hexec
  exact runs_of_loadOp hexec (.refl s)

/-- A rotate with WC 1 writes its flags as an arithmetic result does. -/
theorem runs_of_rotateOp_wc_true {ins : Instr} {s : State} {r : Reg} {res8 : Byte} {res9 : Alu}
    (hexec : exec ins s = .next ((s.rotateOp r res8 res9).retire 1 2)) (hwc : s.psl.wc = true) :
    Runs ins s
      { s.view with
        cell := setCell s.cell s.psl.rs r res9.res
        psl := { s.psl with c := res9.c, idc := res9.idc, ovf := res9.ovf, cc := signCode res9.res }
        pc := inpage s.pc 1, cycles := s.cycles + 2 } := by
  rw [State.rotateOp_eq, hwc] at hexec
  refine ⟨_, hexec, ?_⟩
  rw [if_pos rfl, State.retire_view, State.writeAlu_view]
  rfl

/-- The digits adjusted apart (R265). -/
theorem decimalAdjust_eq (c idc : Bool) (v : Byte) :
    decimalAdjust c idc v =
      BitVec.ofNat 8 ((v.toNat / 16 + (if c then 0 else 10)) % 16 * 16 +
        (v.toNat % 16 + (if idc then 0 else 10)) % 16) := by
  revert c idc v
  decide

theorem exec_dar (r : Reg) (s : State) :
    exec (.dar r) s =
      .next ((((s.setReg r (decimalAdjust s.psl.c s.psl.idc (s.x r))).fresh.2).setCC
        (Config.freeCC s.draws)).retire 1 3) := by
  rw [← State.setReg_draws s r (decimalAdjust s.psl.c s.psl.idc (s.x r)), ← State.getReg_eq_x]
  rfl

theorem State.fresh_view (s : State) : s.fresh.2.view = { s.view with draws := s.draws + 1 } := rfl

/-! ### Ports (46_io.md) -/

theorem ioIn_eq (space : IoSpace) (r : Reg) (len : Offset) (cyc : Nat) (s : State) :
    ioIn space r len cyc s = .next ((State.loadOp r (s.ioRead space).1 (s.ioRead space).2).retire len cyc) := rfl

theorem ioOut_eq (space : IoSpace) (r : Reg) (len : Offset) (cyc : Nat) (s : State) :
    ioOut space r len cyc s = .next ((s.emit (.ioWrite space (s.x r))).retire len cyc) := by
  rw [← State.getReg_eq_x]
  rfl

theorem State.emit_view (s : State) (e : Event) : (s.emit e).view = { s.view with trace := s.trace ++ [e] } := rfl

/-- A read of a port is a load of the byte drawn after the transfer is recorded. -/
theorem runs_of_ioIn {ins : Instr} {s : State} {space : IoSpace} {r : Reg} {len : Offset} {cyc : Nat}
    (hexec : exec ins s = ioIn space r len cyc s) :
    let d := State.drawIoRead { s with trace := s.trace ++ [.ioRead space] }
    Runs ins s
      { s.view.accessed d.2 with
        cell := setCell s.cell s.psl.rs r d.1, psl := { s.psl with cc := signCode d.1 }
        pc := inpage s.pc len, cycles := s.cycles + cyc } :=
  runs_of_loadOp (hexec.trans (ioIn_eq space r len cyc s)) (s.accessed_ioRead space)

theorem runs_of_ioOut {ins : Instr} {s : State} {space : IoSpace} {r : Reg} {len : Offset} {cyc : Nat}
    (hexec : exec ins s = ioOut space r len cyc s) :
    Runs ins s
      { s.view with
        trace := s.trace ++ [.ioWrite space (s.x r)], pc := inpage s.pc len, cycles := s.cycles + cyc } := by
  refine ⟨_, hexec.trans (ioOut_eq space r len cyc s), ?_⟩
  rw [State.retire_view, State.emit_view]
  rfl

/-! ### HALT -/

/-- The frame of the run/wait flag: the RUN/WAIT line is told if it changes (10_state.md R55). -/
theorem State.setWaiting_eq (s : State) (b : Bool) :
    s.setWaiting b =
      { s with waiting := b, trace := s.trace ++ (if s.waiting = b then [] else [.waitLine b]) } := by
  unfold State.setWaiting
  split_ifs with h
  · rw [List.append_nil, ← h]
  · rfl

theorem exec_halt (s : State) : exec .halt s = .next ((s.retire 1 2).setWaiting true) := rfl

end Sys2Proof.Machine

namespace Sys2Proof.Proofs
open Sys2Proof.Machine

/-- Settles O31: a byte and a PSL determine each other, and each clause but the last two is one field of that. -/
theorem pslByteLayout : Obligations.PslByteLayout := by
  refine ⟨fun p => ?fields, Psl.toByte_ofByte⟩
  case fields =>
    have hp : Psl.ofByte p.toByte = p := p.ofByte_toByte
    exact ⟨congrArg Psl.cc hp, congrArg Psl.idc hp, congrArg Psl.rs hp, congrArg Psl.wc hp, congrArg Psl.ovf hp,
      congrArg Psl.com hp, congrArg Psl.c hp, hp⟩

/-- Settles O34: each is one write of PSU through the mask of R240. -/
theorem psuWritesAreMasked : Obligations.PsuWritesAreMasked := by
  refine ⟨fun s => ?lpsu, fun m s => ?cpsu, fun m s => ?ppsu⟩
  case lpsu =>
    rw [← putPsu_all]
    exact runs_of_selectPsu (exec_lpsu s)
  case cpsu =>
    rw [← putPsu_clear]
    exact runs_of_selectPsu (exec_cpsu m s)
  case ppsu =>
    rw [← putPsu_preset]
    exact runs_of_selectPsu (exec_ppsu m s)

/-- Settles O35: both are a load of r0, SPSU after its sample of the SENSE pin. -/
theorem statusIsStoredInR0 : Obligations.StatusIsStoredInR0 := by
  refine ⟨fun s => ?spsu, fun s => runs_of_loadOp (exec_spsl s) (.refl s)⟩
  case spsu =>
    dsimp only
    rw [← s.psuView_drawSense]
    exact runs_of_loadOp (exec_spsu s) s.accessed_drawSense

/-- Settles O36: each writes the code of its test into CC, TPSU after its sample of the SENSE pin. -/
theorem testsSetCCAlone : Obligations.TestsSetCCAlone := by
  refine ⟨fun m s => ?tpsu, fun m s => ?tpsl, fun r m s => ?tmi⟩
  case tpsu =>
    dsimp only
    rw [← testCC_eq, ← s.psuView_drawSense]
    exact runs_of_setCC (exec_tpsu m s) s.accessed_drawSense
  case tpsl =>
    dsimp only
    rw [← testCC_eq]
    exact runs_of_setCC (exec_tpsl m s) (.refl s)
  case tmi =>
    dsimp only
    rw [← testCC_eq]
    exact runs_of_setCC (exec_tmi r m s) (.refl s)

/-- Settles O46: without carry a rotate is a load, with it an arithmetic result; the bytes and flags are
`rotLeft8_eq` to `rotRight9_eq`. -/
theorem rotateThroughCarryOrNot : Obligations.RotateThroughCarryOrNot := by
  intro r s
  dsimp only
  refine ⟨fun hwc => ⟨?left8, ?right8⟩, fun hwc => ⟨?left9, ?right9⟩⟩
  case left8 =>
    rw [← rotLeft8_eq]
    exact runs_of_rotateOp_wc_false (exec_rrl r s) hwc
  case right8 =>
    rw [← rotRight8_eq]
    exact runs_of_rotateOp_wc_false (exec_rrr r s) hwc
  case left9 =>
    have hrun := runs_of_rotateOp_wc_true (exec_rrl r s) hwc
    rw [rotLeft9_eq] at hrun
    exact hrun
  case right9 =>
    have hrun := runs_of_rotateOp_wc_true (exec_rrr r s) hwc
    rw [rotRight9_eq] at hrun
    exact hrun

/-- Settles O47: the digits are `decimalAdjust_eq`; CC is the free value of the counter. -/
theorem decimalAdjustDigits : Obligations.DecimalAdjustDigits := by
  intro r s
  dsimp only
  refine ⟨Config.freeCC s.draws, _, exec_dar r s, ?_⟩
  rw [State.retire_view, State.setCC_view, State.fresh_view, State.setReg_view, decimalAdjust_eq, State.fresh_psl,
    State.setReg_psl, State.setReg_draws]
  rfl

/-- Settles O57: each read is a load of the byte drawn, each write one event. -/
theorem portTransfers : Obligations.PortTransfers := by
  intro r port s
  exact ⟨runs_of_ioIn rfl, runs_of_ioIn rfl, runs_of_ioIn rfl, runs_of_ioOut rfl, runs_of_ioOut rfl, runs_of_ioOut rfl⟩

/-- Settles O59: HALT retires and sets the run/wait flag. -/
theorem haltEntersWait : Obligations.HaltEntersWait := by
  intro s
  refine ⟨_, exec_halt s, ?_⟩
  rw [State.setWaiting_eq]
  rfl

end Sys2Proof.Proofs
end

section
/-! Accesses to memory by kind (20_memory.md R76), pointers (R70), the instructions that store, and the environment's
draws (60_exceptions.md R272). -/

namespace Sys2Proof.Machine

/-! ### A write as a reader sees it -/

theorem State.memWrite_cell (s : State) (a : Addr) (v : Byte) : (s.memWrite a v).cell = s.cell := by
  funext b q
  cases q <;> simp [State.cell]

theorem State.memWrite_entry (s : State) (a : Addr) (v : Byte) : (s.memWrite a v).entry = s.entry :=
  funext (State.entry_congr (s.memWrite_ras a v))

/-- Of the outputs only a write to a device is one. -/
theorem State.memWrite_trace (s : State) (a : Addr) (v : Byte) :
    (s.memWrite a v).trace = if s.kindAt a = .device then s.trace ++ [.deviceWrite a v] else s.trace := by
  cases h : s.kindAt a <;> simp [State.memWrite, h]

theorem State.peek_memWrite (s : State) (a b : Addr) (v : Byte) :
    (s.memWrite a v).peek b = if b = a ∧ s.kindAt a = .ram then v else s.peek b := by
  by_cases hb : b = a
  · subst hb
    simp only [State.peek_memWrite_same, true_and]
  · rw [State.peek_memWrite_other s v hb, if_neg fun h => hb h.1]

/-- The frame of a write in a state `u` that has the memory and the parameters of `s`. -/
theorem State.memWrite_view {s u : State} (hmem : u.mem = s.mem) (hcfg : u.cfg = s.cfg) (a : Addr) (v : Byte) :
    (u.memWrite a v).view = s.stores u a v u.view := by
  have hbyte : (u.memWrite a v).peek = fun b => if b = a ∧ s.kindAt a = .ram then v else s.peek b := by
    funext b
    rw [State.peek_memWrite, State.kindAt_congr hcfg, State.peek_congr hmem]
  simp [State.view, State.stores, State.memWrite_cell, State.memWrite_entry, hbyte, State.memWrite_trace,
    State.kindAt_congr hcfg]

/-- The end of an instruction after a write. -/
theorem State.stores_retire_view {s u : State} (hmem : u.mem = s.mem) (hcfg : u.cfg = s.cfg) (a : Addr) (v : Byte)
    (len : Offset) (cyc : Nat) :
    ((u.memWrite a v).retire len cyc).view =
      s.stores u a v { u.view with pc := inpage u.pc len, cycles := u.cycles + cyc } := by
  rw [State.retire_view, State.memWrite_view hmem hcfg]
  rfl

/-- An instruction that ends in a write after accesses to memory. -/
theorem runs_of_memWrite {ins : Instr} {s u : State} {a : Addr} {v : Byte} {len : Offset} {cyc : Nat}
    (hexec : exec ins s = .next ((u.memWrite a v).retire len cyc)) (h : s.Accessed u) :
    Runs ins s (s.stores u a v { s.view with pc := inpage s.pc len, cycles := s.cycles + cyc }) := by
  refine ⟨_, hexec, ?_⟩
  rw [State.stores_retire_view h.mem h.cfg, h.view, h.pc, h.cycles]
  rfl

/-! ### Loads and stores of PSL (47_psw.md R250, R251), stores of a register (40_load_store.md R146, R147) -/

theorem ne_plain_of_eq_b {s : State} (h : s.cfg.variant = .p2650B) : ¬ s.cfg.variant = .p2650 := by
  rw [h]
  decide

theorem exec_ldpl (i : Bool) (a : Addr) {s : State} (h : s.cfg.variant = .p2650B) :
    exec (.ldpl i a) s =
      let m := (s.eaB i a).2.memRead (s.eaB i a).1
      .next ((m.2.setPsl (.ofByte m.1)).retire 3 (4 + indCycles i)) := if_neg (ne_plain_of_eq_b h)

theorem exec_stpl (i : Bool) (a : Addr) {s : State} (h : s.cfg.variant = .p2650B) :
    exec (.stpl i a) s =
      .next (((s.eaB i a).2.memWrite (s.eaB i a).1 s.psl.toByte).retire 3 (4 + indCycles i)) := by
  rw [← (s.accessed_eaB i a).psl]
  exact if_neg (ne_plain_of_eq_b h)

theorem exec_strr (r : Reg) (i : Bool) (d : Disp) (s : State) :
    exec (.strr r i d) s =
      .next (((s.eaR i d).2.memWrite (s.eaR i d).1 (s.x r)).retire 2 (3 + indCycles i)) := by
  rw [← State.getReg_eq_x, ← (s.accessed_eaR i d).getReg]
  rfl

theorem exec_stra_of_fits {r : Reg} {i : Bool} {x : IndexCtl} {a : Offset} {s : State} (h : s.indexFits r i x a) :
    exec (.stra r i x a) s =
      .next (((s.baseOf r i x a).2.memWrite (s.eaOf r i x a) (s.stepped r x s.psl.rs (operandReg r x))).retire 3
        (4 + indCycles i)) := by
  rw [exec_stra, State.eaA_of_fits h, andThen_next, (s.accessed_baseOf r i x a).getReg, State.getReg_eq_x,
    State.x_stepIndex]

/-! ### Pointers (20_memory.md R70) -/

/-- The second byte of a pointer is at the next address of the page (R63). -/
theorem inpage_one (p : Addr) : inpage p 1 = addressAt (page p).toNat ((off p).toNat + 1) := inpage_ofInt p 1

/-- The pointer as a number: bit 7 of the high byte is dropped. -/
theorem pointer_toNat (hi lo : Byte) : (hi.extractLsb' 0 7 ++ lo).toNat = hi.toNat % 128 * 256 + lo.toNat := by
  have hlo : lo.toNat < 2 ^ 8 := lo.isLt
  rw [BitVec.toNat_append, BitVec.extractLsb'_toNat, Nat.shiftRight_zero, ← Nat.shiftLeft_add_eq_or_of_lt hlo,
    Nat.shiftLeft_eq]

theorem State.readPtr_toNat (s : State) (p : Addr) :
    (s.readPtr p).1.toNat =
      (s.memRead p).1.toNat % 128 * 256 + ((s.memRead p).2.memRead (inpage p 1)).1.toNat := by
  rw [State.readPtr_eq, pointer_toNat]

theorem State.drawMemRead_cons {s : State} {b : Byte} {bs : List Byte} (h : s.env.memReads = b :: bs) :
    s.drawMemRead = (b, { s with env := { s.env with memReads := bs } }) := by
  unfold State.drawMemRead
  rw [h]

theorem State.memRead_device_cons {s : State} {a : Addr} {b : Byte} {bs : List Byte} (hkind : s.kindAt a = .device)
    (hscript : s.env.memReads = b :: bs) :
    s.memRead a = (b, { s with env := { s.env with memReads := bs }, trace := s.trace ++ [.deviceRead a] }) := by
  rw [State.memRead_device hkind]
  exact State.drawMemRead_cons hscript

theorem State.memRead_absent_cons {s : State} {a : Addr} {b : Byte} {bs : List Byte} (hkind : s.kindAt a = .absent)
    (hscript : s.env.memReads = b :: bs) :
    s.memRead a = (b, { s with env := { s.env with memReads := bs } }) := by
  rw [State.memRead_absent hkind, State.drawMemRead_cons hscript]

/-- A pointer from what its two reads answer. -/
theorem State.readPtr_of_reads {s s1 s2 : State} {p : Addr} {h l : Byte} (hhigh : s.memRead p = (h, s1))
    (hlow : s1.memRead (inpage p 1) = (l, s2)) : s.readPtr p = (h.extractLsb' 0 7 ++ l, s2) := by
  rw [State.readPtr_eq, hhigh]
  dsimp only
  rw [hlow]

/-- A pointer in two device addresses. -/
theorem State.readPtr_device {s : State} {p : Addr} {h l : Byte} {rest : List Byte}
    (hscript : s.env.memReads = h :: l :: rest) (hp : s.kindAt p = .device) (hq : s.kindAt (inpage p 1) = .device) :
    s.readPtr p =
      (h.extractLsb' 0 7 ++ l,
        { s with
          env := { s.env with memReads := rest }
          trace := s.trace ++ [.deviceRead p, .deviceRead (inpage p 1)] }) := by
  rw [State.readPtr_of_reads (State.memRead_device_cons hp hscript) (State.memRead_device_cons hq rfl),
    List.append_assoc]
  rfl

/-- A pointer in two absent addresses. -/
theorem State.readPtr_absent {s : State} {p : Addr} {h l : Byte} {rest : List Byte}
    (hscript : s.env.memReads = h :: l :: rest) (hp : s.kindAt p = .absent) (hq : s.kindAt (inpage p 1) = .absent) :
    s.readPtr p = (h.extractLsb' 0 7 ++ l, { s with env := { s.env with memReads := rest } }) :=
  State.readPtr_of_reads (State.memRead_absent_cons hp hscript) (State.memRead_absent_cons hq rfl)

end Sys2Proof.Machine

namespace Sys2Proof.Proofs
open Sys2Proof.Machine

/-- Settles O28: a pointer is its two reads, the second at the next address of the page. -/
theorem pointerIsHighByteFirst : Obligations.PointerIsHighByteFirst := by
  intro s p
  dsimp only
  rw [← inpage_one]
  refine ⟨s.resolve_direct p, s.resolve_indirect p, s.readPtr_toNat p, rfl, ?stored, fun h l rest hscript => ?scripted⟩
  case stored => exact fun hp hq => ⟨_, State.readPtr_stored hp hq, pointer_toNat _ _⟩
  case scripted =>
    exact ⟨fun hp hq => ⟨_, pointer_toNat h l, State.readPtr_device hscript hp hq⟩,
      fun hp hq => ⟨_, pointer_toNat h l, State.readPtr_absent hscript hp hq⟩⟩

/-- Settles O29: the reads by kind, the frame of a write, and a read of RAM after a write to it. -/
theorem memoryAccessByKind : Obligations.MemoryAccessByKind := by
  intro s a v
  refine ⟨State.memRead_stored, State.memRead_device, State.memRead_absent, State.memWrite_view rfl rfl a v, ?readBack⟩
  case readBack =>
    intro hram
    have hkind : (s.memWrite a v).kindAt a = .ram := (State.kindAt_congr (s.memWrite_cfg a v) a).trans hram
    rw [State.memRead_stored (.inl hkind), State.peek_memWrite_same, if_pos hram]

/-- Settles O30: each draw matches on its own script. -/
theorem scriptsAnswerInOrder : Obligations.ScriptsAnswerInOrder := by
  intro s
  refine ⟨?sense, ?ioRead, fun b bs => State.drawMemRead_cons, ?intVector, ?senseEnd, ?ioReadEnd, ?memReadEnd,
    ?intVectorEnd, ?resetEnd, ?intReqEnd⟩
  case sense => intro b bs h; rw [State.drawSense, h]
  case ioRead => intro b bs h; rw [State.drawIoRead, h]
  case intVector => intro b bs h; rw [State.drawIntVector, h]
  case senseEnd => intro h; rw [State.drawSense, h]
  case ioReadEnd => intro h; rw [State.drawIoRead, h]
  case memReadEnd => intro h; rw [State.drawMemRead, h]
  case intVectorEnd => intro h; rw [State.drawIntVector, h]
  case resetEnd => intro h; rw [State.drawReset, h]
  case intReqEnd => intro h; rw [State.drawIntReq, h]

/-- Settles O37: LDPL writes PSL after its accesses, STPL ends in one write to memory. -/
theorem pslInMemory : Obligations.PslInMemory := by
  intro i a s hvariant
  dsimp only
  rw [cyclesOf_eq]
  refine ⟨⟨_, Psl.toByte_ofByte _, ?ldpl⟩, runs_of_memWrite (exec_stpl i a hvariant) (s.accessed_eaB i a)⟩
  case ldpl =>
    exact runs_of_setPsl_accessed (exec_ldpl i a hvariant) ((s.accessed_eaB i a).trans (State.accessed_memRead _ _))

/-- Settles O40: one write to memory at the relative effective address. -/
theorem storeRelative : Obligations.StoreRelative := by
  intro r i d s
  dsimp only
  rw [cyclesOf_eq]
  exact runs_of_memWrite (exec_strr r i d s) (s.accessed_eaR i d)

/-- Settles O41: the index register stepped, then one write to memory at the absolute effective address. -/
theorem storeAbsolute : Obligations.StoreAbsolute := by
  intro r i x a s hfits
  have hacc := s.accessed_baseOf r i x a
  have hmem : (s.baseOf r i x a).2.mem = s.mem := hacc.mem.trans (s.stepIndex_mem r x)
  refine ⟨_, exec_stra_of_fits hfits, ?_⟩
  rw [State.stores_retire_view hmem (s.baseOf_cfg r i x a), hacc.view, hacc.pc, hacc.cycles, State.stepIndex_view,
    State.stepIndex_pc, State.stepIndex_cycles, cyclesOf_eq]
  rfl

end Sys2Proof.Proofs
end

section
/-! Branches, subroutine branches and returns (43_branch.md, 44_subroutine.md): a register stepped before the address is
formed is not seen by the reads, and each instruction is a branch form under its test. -/

namespace Sys2Proof.Machine

/-! ### Changes that reads of memory do not see -/

/-- A state with the registers, PSU and the cycle count replaced: nothing that a read of memory looks at. -/
def State.withData (s : State) (r0 : Byte) (bank0 bank1 : Bank) (psu : Byte) (cycles : Nat) : State :=
  { s with r0 := r0, bank0 := bank0, bank1 := bank1, psu := psu, cycles := cycles }

theorem State.memRead_withData (s : State) (r0 : Byte) (bank0 bank1 : Bank) (psu : Byte) (n : Nat) (a : Addr) :
    (s.withData r0 bank0 bank1 psu n).memRead a =
      ((s.memRead a).1, (s.memRead a).2.withData r0 bank0 bank1 psu n) := by
  have hkind : (s.withData r0 bank0 bank1 psu n).kindAt a = s.kindAt a := rfl
  have hdraw : ∀ u : State, (u.withData r0 bank0 bank1 psu n).drawMemRead =
      (u.drawMemRead.1, u.drawMemRead.2.withData r0 bank0 bank1 psu n) := by
    intro u
    have henv : (u.withData r0 bank0 bank1 psu n).env = u.env := rfl
    unfold State.drawMemRead
    rw [henv]
    cases u.env.memReads <;> rfl
  unfold State.memRead
  rw [hkind]
  cases s.kindAt a with
  | ram | rom => rfl
  | device => exact hdraw (s.emit (.deviceRead a))
  | absent => exact hdraw s

/-- The change `g` is not seen by the reads of memory and of `pc` in the states of `C`, and commutes with them. -/
structure PassesReads (C : State → Prop) (g : State → State) : Prop where
  accessed : ∀ {s u : State}, s.Accessed u → C s → C u
  pc : ∀ s, (g s).pc = s.pc
  memRead : ∀ {s}, C s → ∀ a, (g s).memRead a = ((s.memRead a).1, g (s.memRead a).2)

/-- A change of registers, PSU or cycles that comes out the same after accesses passes the reads. -/
theorem passesReads_of_withData {C : State → Prop} {g : State → State}
    (hC : ∀ {s u : State}, s.Accessed u → C s → C u)
    (hg : ∀ {s u : State}, C s → s.Accessed u →
      g u = u.withData (g s).r0 (g s).bank0 (g s).bank1 (g s).psu (g s).cycles)
    (hpc : ∀ s, (g s).pc = s.pc) : PassesReads C g where
  accessed := hC
  pc := hpc
  memRead {s} hs a := by
    rw [hg hs (s.accessed_memRead a)]
    conv_lhs => rw [hg hs (.refl s), State.memRead_withData]

section
variable {C : State → Prop} {g : State → State} (hg : PassesReads C g) {s : State} (hs : C s)
include hg hs

theorem PassesReads.readPtr (p : Addr) : (g s).readPtr p = ((s.readPtr p).1, g (s.readPtr p).2) := by
  have hnext : C (s.memRead p).2 := hg.accessed (s.accessed_memRead p) hs
  rw [State.readPtr_eq, hg.memRead hs]
  dsimp only
  rw [hg.memRead hnext, State.readPtr_eq]

theorem PassesReads.resolve (i : Bool) (p : Addr) : (g s).resolve i p = ((s.resolve i p).1, g (s.resolve i p).2) := by
  cases i with
  | false => rfl
  | true => exact hg.readPtr hs p

theorem PassesReads.eaR (i : Bool) (d : Disp) : (g s).eaR i d = ((s.eaR i d).1, g (s.eaR i d).2) := by
  rw [State.eaR, hg.pc]
  exact hg.resolve hs i _

theorem PassesReads.eaB (i : Bool) (a : Addr) : (g s).eaB i a = ((s.eaB i a).1, g (s.eaB i a).2) :=
  hg.resolve hs i a

theorem PassesReads.eaZ0 (i : Bool) (d : Disp) : (g s).eaZ0 i d = ((s.eaZ0 i d).1, g (s.eaZ0 i d).2) :=
  hg.resolve hs i _

end

/-- No read sees a register write. -/
theorem passesReads_setReg (r : Reg) (v : Byte) : PassesReads (fun _ => True) (fun s => s.setReg r v) :=
  passesReads_of_withData (fun _ _ => trivial)
    (fun {t u} _ h => by
      rw [h]
      cases r with
      | r0 => rfl
      | r1 | r2 | r3 =>
        unfold State.setReg State.setBank State.bank
        cases t.psl.rs <;> rfl)
    (fun u => u.setReg_pc r v)

/-! ### The stack as a reader sees it (10_state.md R48, R49) -/

theorem putSp_eq (psu : Byte) (sp : BitVec 3) : putSp psu sp = (psu &&& 0b11111000#8) ||| sp.setWidth 8 := by
  revert psu sp
  decide

theorem State.push_entry (s : State) (a : Addr) (k : BitVec 3) :
    (s.push a).entry k = if k = s.sp + 1 then a else s.entry k := by
  have hindex : (s.sp + 1).toNat = k.toNat ↔ k = s.sp + 1 :=
    ⟨fun h => (BitVec.eq_of_toNat_eq h).symm, fun h => by rw [h]⟩
  simp only [State.entry, State.push_ras, Vector.getElem_set, hindex]

theorem State.push_view (s : State) (a : Addr) : (s.push a).view = s.pushed s.view a := by
  have hentry : (s.push a).entry = fun k => if k = s.sp + 1 then a else s.entry k := funext (s.push_entry a)
  rw [State.pushed, ← putSp_eq, ← hentry]
  rfl

/-- The frame of a subroutine branch that is taken, after accesses. -/
theorem State.Accessed.call_view {s u : State} (h : s.Accessed u) (len : Offset) (ea : Addr) (cyc : Nat) :
    (u.call len ea cyc).view =
      s.pushed { s.view.accessed u with pc := ea, cycles := s.cycles + cyc } (inpage s.pc len) := by
  have hentry : u.entry = s.entry := funext (State.entry_congr h.ras)
  calc (u.call len ea cyc).view
      = { (u.push (inpage u.pc len)).view with pc := ea, cycles := u.cycles + cyc } := rfl
    _ = { u.pushed u.view (inpage u.pc len) with pc := ea, cycles := u.cycles + cyc } := by rw [State.push_view]
    _ = _ := by
      rw [h.view, State.pushed, State.pushed, h.psu, h.sp, hentry, h.pc, h.cycles]

theorem State.jump_view (s : State) (a : Addr) (cyc : Nat) :
    (s.jump a cyc).view = { s.view with pc := a, cycles := s.view.cycles + cyc } := rfl

theorem State.pop_view (s : State) :
    s.pop.2.view = { s.view with psu := (s.psu &&& 0b11111000#8) ||| (s.sp - 1).setWidth 8 } := by
  rw [← putSp_eq]
  rfl

theorem State.setII_false_view (s : State) :
    (s.setII false).view = { s.view with psu := s.psu &&& 0b11011111#8 } := by
  have hmask : ~~~BitVec.twoPow 8 5 = 0b11011111#8 := by decide
  rw [← hmask]
  rfl

/-! ### The branch forms -/

/-- A branch to `e.1` after the accesses that end in `e.2`, if `taken`, on states changed by `g`, which shows as the
cells `c`. -/
theorem runs_of_branch {ins : Instr} {s : State} {e : Addr × State} {g : State → State} {c : Bool → Reg → Byte}
    {taken i : Bool} {len : Offset} (hacc : s.Accessed e.2)
    (hview : ∀ u, s.Accessed u → (g u).view = { u.view with cell := c })
    (hexec : exec ins s = .next (if taken then (g e.2).jump e.1 (3 + indCycles i) else (g s).retire len 3)) :
    Runs ins s
      (if taken then { s.view.accessed e.2 with cell := c, pc := e.1, cycles := s.cycles + cyclesOf 3 i }
      else { s.view with cell := c, pc := inpage s.pc len, cycles := s.cycles + 3 }) := by
  refine ⟨_, hexec, ?_⟩
  cases taken with
  | false =>
    rw [if_neg Bool.false_ne_true, State.retire_view, hview s (.refl s)]
    rfl
  | true =>
    rw [if_pos rfl, State.jump_view, hview _ hacc, hacc.view, cyclesOf_eq]
    rfl

theorem runs_of_branchR {ins : Instr} {s : State} {taken i : Bool} {d : Disp}
    (hexec : exec ins s = branchR taken i d s) : Runs ins s (s.afterBranchR s s.cell taken i d) := by
  refine runs_of_branch (g := id) (s.accessed_eaR i d) (fun u h => ?_) (hexec.trans (branchR_eq taken i d s))
  rw [← h.cell]
  rfl

theorem runs_of_branchB {ins : Instr} {s : State} {taken i : Bool} {a : Addr}
    (hexec : exec ins s = branchB taken i a s) : Runs ins s (s.afterBranchB s s.cell taken i a) := by
  refine runs_of_branch (g := id) (s.accessed_eaB i a) (fun u h => ?_) (hexec.trans (branchB_eq taken i a s))
  rw [← h.cell]
  rfl

theorem State.Accessed.setReg_view {s u : State} (h : s.Accessed u) (r : Reg) (v : Byte) :
    (u.setReg r v).view = { u.view with cell := setCell s.cell s.psl.rs r v } := by
  rw [State.setReg_view, h.cell, h.psl]

/-- A branch that steps its register first: its address and scripts are those of the state before the step. -/
theorem runs_of_branchR_setReg {ins : Instr} {s : State} {taken i : Bool} {d : Disp} {r : Reg} {v : Byte}
    (hexec : exec ins s = branchR taken i d (s.setReg r v)) :
    Runs ins s (s.afterBranchR s (setCell s.cell s.psl.rs r v) taken i d) := by
  rw [branchR_eq, (passesReads_setReg r v).eaR trivial] at hexec
  exact runs_of_branch (s.accessed_eaR i d) (fun u h => h.setReg_view r v) hexec

theorem runs_of_branchB_setReg {ins : Instr} {s : State} {taken i : Bool} {a : Addr} {r : Reg} {v : Byte}
    (hexec : exec ins s = branchB taken i a (s.setReg r v)) :
    Runs ins s (s.afterBranchB s (setCell s.cell s.psl.rs r v) taken i a) := by
  rw [branchB_eq, (passesReads_setReg r v).eaB trivial] at hexec
  exact runs_of_branch (s.accessed_eaB i a) (fun u h => h.setReg_view r v) hexec

theorem runs_of_callR {ins : Instr} {s : State} {taken i : Bool} {d : Disp}
    (hexec : exec ins s = callR taken i d s) : Runs ins s (s.afterCallR taken i d) := by
  refine ⟨_, hexec.trans (callR_eq taken i d s), ?_⟩
  cases taken with
  | false => rfl
  | true => exact ((s.accessed_eaR i d).call_view _ _ _).trans (by rw [← cyclesOf_eq]; rfl)

theorem runs_of_callB {ins : Instr} {s : State} {taken i : Bool} {a : Addr}
    (hexec : exec ins s = callB taken i a s) : Runs ins s (s.afterCallB taken i a) := by
  refine ⟨_, hexec.trans (callB_eq taken i a s), ?_⟩
  cases taken with
  | false => rfl
  | true => exact ((s.accessed_eaB i a).call_view _ _ _).trans (by rw [← cyclesOf_eq]; rfl)

/-! ### The instructions, each as its branch form -/

theorem exec_bctr (v : Cond) (i : Bool) (d : Disp) (s : State) :
    exec (.bctr v i d) s = branchR (s.holds v) i d s := by
  rw [← State.condTrue_eq_holds]
  rfl

theorem exec_bstr (v : Cond) (i : Bool) (d : Disp) (s : State) :
    exec (.bstr v i d) s = callR (s.holds v) i d s := by
  rw [← State.condTrue_eq_holds]
  rfl

theorem exec_bcfr {v : Cond} (hv : v ≠ .un) (i : Bool) (d : Disp) (s : State) :
    exec (.bcfr v i d) s = branchR (!s.holds v) i d s := by
  rw [← State.condFalse_eq_not_holds s hv]
  exact if_neg hv

theorem exec_bsfr {v : Cond} (hv : v ≠ .un) (i : Bool) (d : Disp) (s : State) :
    exec (.bsfr v i d) s = callR (!s.holds v) i d s := by
  rw [← State.condFalse_eq_not_holds s hv]
  exact if_neg hv

theorem exec_brnr (r : Reg) (i : Bool) (d : Disp) (s : State) :
    exec (.brnr r i d) s = branchR (decide (s.x r ≠ 0)) i d s := by
  rw [← State.getReg_eq_x, ← State.nonZero_eq_decide]
  rfl

theorem exec_bsnr (r : Reg) (i : Bool) (d : Disp) (s : State) :
    exec (.bsnr r i d) s = callR (decide (s.x r ≠ 0)) i d s := by
  rw [← State.getReg_eq_x, ← State.nonZero_eq_decide]
  rfl

theorem State.nonZero_setReg (s : State) (r : Reg) (v : Byte) : (s.setReg r v).nonZero r = decide (v ≠ 0) := by
  rw [State.nonZero_eq_decide, State.getReg_setReg_same]

/-- One up and one down, as numbers modulo 256 (43_branch.md R187, R189). -/
theorem State.incReg_eq (s : State) (r : Reg) : s.incReg r = s.setReg r (BitVec.ofNat 8 ((s.x r).toNat + 1)) := by
  rw [State.incReg, State.getReg_eq_x, BitVec.ofNat_add, BitVec.ofNat_toNat, BitVec.setWidth_eq]
  rfl

theorem State.decReg_eq (s : State) (r : Reg) : s.decReg r = s.setReg r (BitVec.ofNat 8 ((s.x r).toNat + 255)) := by
  rw [State.decReg, State.getReg_eq_x, BitVec.ofNat_add, BitVec.ofNat_toNat, BitVec.setWidth_eq, BitVec.sub_eq_add_neg]
  rfl

theorem exec_zbrr (i : Bool) (d : Disp) (s : State) :
    exec (.zbrr i d) s = .next ((s.eaZ0 i d).2.jump (s.eaZ0 i d).1 (3 + indCycles i)) := rfl

theorem exec_zbsr (i : Bool) (d : Disp) (s : State) :
    exec (.zbsr i d) s = .next ((s.eaZ0 i d).2.call 2 (s.eaZ0 i d).1 (3 + indCycles i)) := rfl

theorem exec_bxa_of_fits {i : Bool} {a : Addr} {s : State} (h : s.branchFits i a) :
    exec (.bxa i a) s = .next ((s.eaB i a).2.jump (s.eaIndexed i a) (3 + indCycles i)) := by
  rw [exec_bxa, State.eaX_of_fits h, andThen_next]

theorem exec_bsxa_of_fits {i : Bool} {a : Addr} {s : State} (h : s.branchFits i a) :
    exec (.bsxa i a) s = .next ((s.eaB i a).2.call 3 (s.eaIndexed i a) (3 + indCycles i)) := by
  rw [exec_bsxa, State.eaX_of_fits h, andThen_next]

/-- A jump after accesses. -/
theorem runs_of_jump {ins : Instr} {s u : State} {ea : Addr} {i : Bool}
    (hexec : exec ins s = .next (u.jump ea (3 + indCycles i))) (h : s.Accessed u) :
    Runs ins s { s.view.accessed u with pc := ea, cycles := s.cycles + cyclesOf 3 i } := by
  refine ⟨_, hexec, ?_⟩
  rw [State.jump_view, h.view, cyclesOf_eq]
  rfl

/-- A subroutine branch that is always taken, after accesses. -/
theorem runs_of_call {ins : Instr} {s u : State} {ea : Addr} {len : Offset} {i : Bool}
    (hexec : exec ins s = .next (u.call len ea (3 + indCycles i))) (h : s.Accessed u) :
    Runs ins s
      (s.pushed { s.view.accessed u with pc := ea, cycles := s.cycles + cyclesOf 3 i } (inpage s.pc len)) := by
  rw [cyclesOf_eq]
  exact ⟨_, hexec, h.call_view len ea _⟩

end Sys2Proof.Machine

namespace Sys2Proof.Proofs
open Sys2Proof.Machine

/-- Settles O49: each is a branch form under its test. -/
theorem conditionalBranches : Obligations.ConditionalBranches := by
  intro v r i d a s
  exact ⟨runs_of_branchR (exec_bctr v i d s), runs_of_branchB (exec_bcta v i a s),
    fun hv => runs_of_branchR (exec_bcfr hv i d s), fun hv => runs_of_branchB (exec_bcfa hv i a s),
    runs_of_branchR (exec_brnr r i d s), runs_of_branchB (exec_brna r i a s)⟩

/-- Settles O50: the register is stepped, then the branch form runs under the test of its new value. -/
theorem countingBranches : Obligations.CountingBranches := by
  intro r i d a s
  dsimp only
  rw [← State.nonZero_setReg s r, ← State.nonZero_setReg s r]
  refine ⟨runs_of_branchR_setReg ?birr, runs_of_branchB_setReg ?bira, runs_of_branchR_setReg ?bdrr,
    runs_of_branchB_setReg ?bdra⟩
  case birr | bira =>
    rw [← State.incReg_eq]
    rfl
  case bdrr | bdra =>
    rw [← State.decReg_eq]
    rfl

/-- Settles O51: a jump or a call after the accesses of the address. -/
theorem farBranchesAndCalls : Obligations.FarBranchesAndCalls :=
  ⟨fun i d s => runs_of_jump (exec_zbrr i d s) (s.accessed_eaZ0 i d),
    fun i a s hfits => runs_of_jump (exec_bxa_of_fits hfits) (s.accessed_eaB i a),
    fun i d s => runs_of_call (exec_zbsr i d s) (s.accessed_eaZ0 i d),
    fun i a s hfits => runs_of_call (exec_bsxa_of_fits hfits) (s.accessed_eaB i a)⟩

/-- Settles O52: each is a subroutine branch form under its test. -/
theorem conditionalSubroutineBranches : Obligations.ConditionalSubroutineBranches := by
  intro v r i d a s
  exact ⟨runs_of_callR (exec_bstr v i d s), runs_of_callB (exec_bsta v i a s),
    fun hv => runs_of_callR (exec_bsfr hv i d s), fun hv => runs_of_callB (exec_bsfa hv i a s),
    runs_of_callR (exec_bsnr r i d s), runs_of_callB (exec_bsna r i a s)⟩

/-- Settles O53: a return that is met is a pop and a jump, RETE's clearing of II between them. -/
theorem returns : Obligations.Returns := by
  intro v s
  dsimp only
  refine ⟨⟨_, exec_retc v s, ?retc⟩, ⟨_, exec_rete v s, ?rete⟩⟩
  case retc =>
    cases s.holds v with
    | false => rfl
    | true =>
      rw [if_pos rfl, if_pos rfl, State.jump_view, State.pop_view]
      rfl
  case rete =>
    cases s.holds v with
    | false => rfl
    | true =>
      rw [if_pos rfl, if_pos rfl, State.jump_view, State.setII_false_view, State.pop_view, State.pop_psu, putSp_eq]
      rfl

end Sys2Proof.Proofs
end

section
/-! Steps (00_scope.md R19): what a boundary samples, the fetch as reads in order, the accepted interrupt and the reset
event; zero-page addresses and the stack as a whole. -/

namespace Sys2Proof.Machine

/-! ### The boundary -/

theorem State.drawIntReq_eq (s : State) :
    s.drawIntReq = (s.request, { s with env := { s.env with intReqs := s.env.intReqs.tail } }) := by
  unfold State.drawIntReq State.request
  split
  · next h => rw [h]; rfl
  · next h =>
    have htail : s.env.intReqs.tail = s.env.intReqs := by rw [h]; rfl
    have hlevel : s.env.intReqs.head?.getD false = false := by rw [h]; rfl
    rw [htail, hlevel]

theorem State.drawReset_of_quiet {s : State} (h : s.quiet) :
    s.drawReset = (none, { s with env := { s.env with resets := s.env.resets.tail } }) := by
  unfold State.drawReset
  split
  · next x xs hscript =>
    cases x with
    | none => rw [hscript]; rfl
    | some v => exact absurd (by rw [hscript]; rfl) (h v)
  · next hscript =>
    have htail : s.env.resets.tail = s.env.resets := by rw [hscript]; rfl
    rw [htail]

/-- A step at a boundary where no reset comes: the samples are taken, then one of three things happens. -/
theorem step_of_quiet {s : State} (h : s.quiet) :
    step s =
      if s.request && !s.ii then .next s.sampled.takeInterrupt
      else if s.waiting then .next s.sampled
      else exec s.sampled.fetch.1 s.sampled.fetch.2 := by
  unfold step State.runStep
  rw [State.drawReset_of_quiet h]
  dsimp only
  rw [State.drawIntReq_eq]
  rfl

/-- A step at a boundary where nothing is recognised. -/
theorem step_of_masked {s : State} (h : s.quiet) (hmasked : (s.request && !s.ii) = false) :
    step s = if s.waiting then .next s.sampled else exec s.sampled.fetch.1 s.sampled.fetch.2 := by
  rw [step_of_quiet h, hmasked]
  rfl

/-- A state with other levels to come on the request line. -/
def State.withRequests (s : State) (levels : List Bool) : State :=
  { s with env := { s.env with intReqs := levels } }

/-- With II 1 no level is recognised (10_state.md R37). -/
theorem State.masked_of_ii {s : State} (h : s.ii = true) (levels : List Bool) :
    ((s.withRequests levels).request && !(s.withRequests levels).ii) = false := by
  have hii : (s.withRequests levels).ii = true := h
  rw [hii, Bool.not_true, Bool.and_false]

theorem step_of_reset {s : State} {v : ResetValues} {rest : List (Option ResetValues)}
    (h : s.env.resets = some v :: rest) :
    step s = .next (State.resetEvent { s with env := { s.env with resets := rest } } v) := by
  unfold step State.runStep State.drawReset
  rw [h]

/-! ### The fetch (20_memory.md R66, R81) -/

theorem inpage_zero (a : Addr) : inpage a 0 = a := by
  have hoff : off a + 0 = off a := BitVec.add_zero (off a)
  rw [inpage, hoff]
  exact append_halves (n := 2) (m := 13) a

theorem inpage_inpage (a : Addr) (k l : Offset) : inpage (inpage a k) l = inpage a (k + l) := by
  rw [inpage, page_inpage, inpage, off_append, BitVec.add_assoc]
  rfl

/-- Bytes in stored memory are read without any change. -/
theorem State.readRun_stored {s : State} :
    ∀ (bytes : List Byte) (p : Addr),
      (∀ k b, bytes[k]? = some b →
        s.stored (inpage p (BitVec.ofNat 13 k)) ∧ s.peek (inpage p (BitVec.ofNat 13 k)) = b) →
      State.readRun bytes.length p s = (bytes, s)
  | [], _, _ => rfl
  | b :: bs, p, h => by
    obtain ⟨hstored, hbyte⟩ := h 0 b rfl
    change s.stored (inpage p 0) at hstored
    change s.peek (inpage p 0) = b at hbyte
    rw [inpage_zero] at hstored hbyte
    have hrest : State.readRun bs.length (inpage p 1) s = (bs, s) := by
      refine State.readRun_stored bs (inpage p 1) fun k b hk => ?_
      have hnext : inpage (inpage p 1) (BitVec.ofNat 13 k) = inpage p (BitVec.ofNat 13 (k + 1)) := by
        rw [inpage_inpage, Nat.add_comm, BitVec.ofNat_add]
        rfl
      rw [hnext]
      exact h (k + 1) b hk
    rw [List.length_cons, State.readRun, State.memRead_stored hstored, hrest, hbyte]

/-- The fetch reads the bytes of the instruction in order and gives it, if they are its encoding. -/
theorem State.fetch_of_readRun {s : State} {i : Instr} (hwf : i.wellFormed = true)
    (h : (State.readRun (encode i).length s.pc s).1 = encode i) :
    s.fetch = (i, (State.readRun (encode i).length s.pc s).2) := by
  obtain ⟨b0, bytes, henc, hreads⟩ := encode_reads i hwf
  have hthird : inpage (inpage s.pc 1) 1 = inpage s.pc 2 := inpage_inpage s.pc 1 1
  rw [henc] at h ⊢
  cases hreads with
  | one ht =>
    obtain ⟨h0, -⟩ := List.cons.inj h
    simp only [State.fetch, h0, ht]
    rfl
  | two ht b1 =>
    obtain ⟨h0, htail⟩ := List.cons.inj h
    obtain ⟨h1, -⟩ := List.cons.inj htail
    simp only [State.fetch, h0, ht, h1]
    rfl
  | three ht b1 b2 =>
    obtain ⟨h0, htail⟩ := List.cons.inj h
    obtain ⟨h1, htail⟩ := List.cons.inj htail
    obtain ⟨h2, -⟩ := List.cons.inj htail
    rw [hthird] at h2
    simp only [State.fetch, h0, ht, h1, h2]
    rw [← hthird]
    rfl

/-! ### Zero-page addresses (20_memory.md R72) -/

theorem State.eaZ0_eq_resolve (s : State) (i : Bool) (d : Disp) : s.eaZ0 i d = s.resolve i (addressAt 0 d.toInt) := by
  rw [State.eaZ0, sext7_eq_ofInt]
  exact congrArg (s.resolve i) (addressAt_eq_append 0#2 d.toInt).symm

theorem addressAt_zero_toNat (d : Disp) :
    ((addressAt 0 d.toInt).toNat : Int) = if d.toInt < 0 then 8192 + d.toInt else d.toInt := by
  have hlow : -64 ≤ d.toInt := BitVec.le_toInt d
  have hhigh : d.toInt < 64 := BitVec.toInt_lt
  rw [addressAt, BitVec.toNat_ofNat]
  split_ifs <;> omega

/-! ### The accepted interrupt (60_exceptions.md R276) -/

theorem passesReads_setII (b : Bool) : PassesReads (fun _ => True) (fun s => s.setII b) :=
  passesReads_of_withData (fun _ _ => trivial) (fun _ h => by rw [h]; rfl) (fun s => s.setII_pc b)

/-- The address an acceptance goes to, and the state after its accesses. -/
def State.vectored (s : State) : Addr × State :=
  let v := ((s.setWaiting false).emit .intAck).drawIntVector
  v.2.eaZ0 (indBit v.1) (disp7 v.1)

theorem State.drawIntVector_setII (s : State) (b : Bool) :
    (s.setII b).drawIntVector = (s.drawIntVector.1, s.drawIntVector.2.setII b) := by
  have henv : (s.setII b).env = s.env := s.setII_env b
  unfold State.drawIntVector
  rw [henv]
  cases s.env.intVectors <;> rfl

/-- An acceptance as a push and a jump: II, set before the accesses, is not seen by them. -/
theorem State.takeInterrupt_eq_jump (s : State) :
    s.takeInterrupt =
      (((s.vectored.2.setII true).push s.vectored.2.pc).fresh.2).jump s.vectored.1
        (Config.freeAcceptCycles s.vectored.2.draws) := by
  have hdraw : (((s.setWaiting false).setII true).emit .intAck).drawIntVector =
      (((s.setWaiting false).emit .intAck).drawIntVector.1,
        ((s.setWaiting false).emit .intAck).drawIntVector.2.setII true) :=
    State.drawIntVector_setII ((s.setWaiting false).emit .intAck) true
  rw [State.takeInterrupt_eq]
  dsimp only
  rw [hdraw]
  dsimp only
  rw [(passesReads_setII true).eaZ0 trivial]
  rfl

theorem State.accessed_vectored (s : State) : (s.setWaiting false).Accessed s.vectored.2 :=
  ((State.accessed_emit _ _).trans (State.accessed_drawIntVector _)).trans (State.accessed_eaZ0 _ _ _)

/-- The frame of an acceptance whose accesses ended in `e`. -/
theorem State.accepted_view {s : State} {e : Addr × State} (hacc : (s.setWaiting false).Accessed e.2) (n : Nat) :
    ((((e.2.setII true).push e.2.pc).fresh.2).jump e.1 n).view =
      { s.view.accessed e.2 with
        psu := putSp (putBit s.psu 5 true) (s.sp + 1)
        entry := fun k => if k = s.sp + 1 then s.pc else s.entry k
        pc := e.1
        waiting := false
        draws := e.2.draws + 1
        cycles := s.cycles + n } := by
  rw [State.setWaiting_eq] at hacc
  have hview : e.2.view = { s.view.accessed e.2 with waiting := false } := hacc.view
  have hpsu : e.2.psu = s.psu := hacc.psu
  have hsp : e.2.sp = s.sp := hacc.sp
  have hpc : e.2.pc = s.pc := hacc.pc
  have hentry : (e.2.setII true).entry = s.entry := funext (State.entry_congr hacc.ras)
  have hsetII : (e.2.setII true).view = { e.2.view with psu := putBit e.2.psu 5 true } := rfl
  rw [State.jump_view, State.fresh_view, State.push_view, State.pushed, ← putSp_eq, State.setII_psu, State.setII_sp,
    hentry, hsetII, hview, hpsu, hsp, hpc]
  rfl

theorem State.takeInterrupt_pc (s : State) : s.takeInterrupt.pc = s.vectored.1 := by
  rw [State.takeInterrupt_eq_jump, State.jump_pc]

/-- PSU after an acceptance: II set, SP one up. -/
theorem acceptPsu_eq (psu : Byte) (sp : BitVec 3) :
    putSp (putBit psu 5 true) sp = (psu &&& 0b11011000#8) ||| 0b00100000#8 ||| sp.setWidth 8 := by
  revert psu sp
  decide

/-- The state the vector byte is drawn in, from a state at the boundary. -/
theorem State.acknowledged_eq (s : State) :
    s.acknowledged = ((s.sampled.setWaiting false).emit .intAck).drawIntVector := by
  rw [State.setWaiting_eq]
  unfold State.acknowledged
  cases h : s.sampled.waiting <;> simp [State.emit, h]

theorem State.vectored_sampled (s : State) :
    s.sampled.vectored =
      s.acknowledged.2.resolve (s.acknowledged.1.getLsbD 7) (addressAt 0 (s.acknowledged.1.extractLsb' 0 7).toInt) := by
  rw [State.acknowledged_eq, State.vectored, State.eaZ0_eq_resolve]
  rfl

/-! ### The reset event (70_reset_and_hazards.md R301) -/

/-- The bits of PSU after a reset. -/
theorem resetPsu_fields (flag : Bool) (sp : BitVec 3) :
    let psu := putSp (putBit 0 6 flag) sp
    psu.getLsbD 5 = false ∧ psu.getLsbD 6 = flag ∧ psu.extractLsb' 0 3 = sp ∧ psu &&& 0b10011000#8 = 0 := by
  revert flag sp
  decide

theorem State.resetEvent_trace (s : State) (v : ResetValues) :
    (s.resetEvent v).trace =
      s.trace ++ (if s.waiting then [.waitLine false, .flagPin v.flag] else [.flagPin v.flag]) := by
  unfold State.resetEvent
  rw [State.setWaiting_eq]
  cases h : s.waiting <;> simp [State.emit]

/-! ### The stack as a whole (10_state.md R47, R50) -/

/-- Pops answer the entries from SP down. -/
theorem State.popAll_eq :
    ∀ (n : Nat) (s : State), State.popAll n s = (List.range n).map fun k => s.entry (s.sp - BitVec.ofNat 3 k)
  | 0, _ => rfl
  | n + 1, s => by
    have hdown : ∀ k, s.sp - 1 - BitVec.ofNat 3 k = s.sp - BitVec.ofNat 3 (k + 1) := by
      intro k
      rw [BitVec.ofNat_add]
      bv_omega
    rw [State.popAll, State.popAll_eq n, List.range_succ_eq_map, List.map_cons, List.map_map]
    refine congrArg₂ List.cons ?first (List.map_congr_left fun k _ => ?later)
    case first => exact (congrArg s.entry (BitVec.sub_zero s.sp)).symm
    case later =>
      rw [State.pop_entry, State.pop_sp, hdown]
      rfl

/-- After pushes the entries from SP down are the last eight addresses, the last one first. -/
theorem State.pushAll_entry (s : State) (as : List Addr) :
    ∀ k < 8, ∀ a, as.reverse[k]? = some a → (s.pushAll as).entry ((s.pushAll as).sp - BitVec.ofNat 3 k) = a := by
  induction as using List.reverseRecOn with
  | nil => simp
  | append_singleton as b ih =>
    have hpush : s.pushAll (as ++ [b]) = (s.pushAll as).push b := by
      simp [State.pushAll]
    intro k hk a ha
    rw [hpush, State.push_sp, State.push_entry]
    rw [List.reverse_append, List.reverse_singleton, List.singleton_append] at ha
    cases k with
    | zero => simpa using ha
    | succ k =>
      have hdown : (s.pushAll as).sp + 1 - BitVec.ofNat 3 (k + 1) = (s.pushAll as).sp - BitVec.ofNat 3 k := by
        rw [BitVec.ofNat_add]
        bv_omega
      have hne : (s.pushAll as).sp - BitVec.ofNat 3 k ≠ (s.pushAll as).sp + 1 := by
        bv_omega
      rw [hdown, if_neg hne]
      exact ih k (by omega) a (by simpa using ha)

end Sys2Proof.Machine

namespace Sys2Proof.Proofs
open Sys2Proof.Machine

/-- Settles O5: the fetch gives the instruction and the state after its bytes, which for stored memory is the state
before them. -/
theorem stepRunsTheInstructionAtPc : Obligations.StepRunsTheInstructionAtPc := by
  intro i s hwf hquiet hmasked hrunning
  dsimp only
  have hread : (State.readRun (encode i).length s.pc s.sampled).1 = encode i →
      step s = exec i (State.readRun (encode i).length s.pc s.sampled).2 := by
    intro h
    rw [step_of_masked hquiet hmasked, hrunning, State.fetch_of_readRun hwf h]
    rfl
  refine ⟨hread, fun hbytes => ?stored⟩
  case stored =>
    have hrun : State.readRun (encode i).length s.pc s.sampled = (encode i, s.sampled) :=
      State.readRun_stored (encode i) s.pc hbytes
    rw [hrun] at hread
    exact hread rfl

/-- Settles O6: of a step's branches the waiting one. -/
theorem waitingStepChangesNothing : Obligations.WaitingStepChangesNothing := by
  intro s hquiet hmasked hwaiting
  rw [step_of_masked hquiet hmasked, if_pos hwaiting]

/-- Settles O7: the accesses of an acceptance do not see II; after them come the push and the jump. -/
theorem interruptAcceptance : Obligations.InterruptAcceptance := by
  intro s hquiet hrequest hii
  dsimp only
  rw [← State.vectored_sampled]
  refine ⟨Config.freeAcceptCycles s.sampled.vectored.2.draws, s.sampled.takeInterrupt, ?step, ?view⟩
  case step =>
    rw [step_of_quiet hquiet, hrequest, hii]
    rfl
  case view =>
    rw [← acceptPsu_eq, State.takeInterrupt_eq_jump]
    exact State.accepted_view s.sampled.accessed_vectored _

/-- Settles O8: with II 1 neither level is recognised, and the sample takes either off the script. -/
theorem inhibitMasksTheRequest : Obligations.InhibitMasksTheRequest := by
  intro s req rest hquiet hii
  change step (s.withRequests (req :: rest)) = step (s.withRequests (false :: rest))
  have hstep : ∀ levels, step (s.withRequests levels) =
      if s.waiting then .next (s.withRequests levels).sampled
      else exec (s.withRequests levels).sampled.fetch.1 (s.withRequests levels).sampled.fetch.2 :=
    fun levels => step_of_masked (s := s.withRequests levels) hquiet (State.masked_of_ii hii levels)
  rw [hstep, hstep]
  rfl

/-- Settles O9: the reset event, field by field. -/
theorem resetEvent : Obligations.ResetEvent := by
  intro s v rest hscript
  obtain ⟨hii, hflag, hsp, hreserved⟩ := resetPsu_fields v.flag v.sp
  refine ⟨_, step_of_reset hscript, rfl, ?waiting, hii, hflag, hsp, hreserved, rfl, rfl, rfl, rfl, rfl, ?memory, ?env,
    ?cycles, ?draws, ?cfg, State.resetEvent_trace _ v⟩
  case waiting => exact State.setWaiting_waiting _ _
  case memory => exact State.peek_congr (State.setWaiting_mem _ _)
  case env => exact State.setWaiting_env _ _
  case cycles => exact State.setWaiting_cycles _ _
  case draws => exact State.setWaiting_draws _ _
  case cfg => exact State.setWaiting_cfg _ _

/-- Settles O27: the zero-page address is `addressAt 0` of the displacement, which a direct ZBRR and ZBSR jump to and an
acceptance whose vector byte holds it. -/
theorem zeroPageAddress : Obligations.ZeroPageAddress := by
  refine ⟨fun s d => ⟨rfl, ?direct, ?number, s.eaZ0_eq_resolve true d⟩, fun s d => ⟨?zbrr, ?zbsr, ?interrupt⟩, ?examples⟩
  case direct => rw [State.eaZ0_eq_resolve, State.resolve_direct]
  case number => rw [State.eaZ0_eq_resolve, State.resolve_direct, addressAt_zero_toNat]
  case zbrr => exact ⟨_, exec_zbrr false d s, by rw [State.eaZ0_eq_resolve]; rfl⟩
  case zbsr => exact ⟨_, exec_zbsr false d s, by rw [State.eaZ0_eq_resolve]; rfl⟩
  case interrupt =>
    intro rest hscript
    have hbyte : ((s.setWaiting false).emit .intAck).drawIntVector.1 = relByte false d := by
      rw [State.drawIntVector, State.emit_env, State.setWaiting_env, hscript]
      rfl
    rw [State.takeInterrupt_pc, State.vectored, hbyte, State.eaZ0_eq_resolve, indBit_relByte, disp7_relByte]
    rfl
  case examples =>
    have hneg : 0#2 ++ sext7 (BitVec.ofInt 7 (-8)) = (8184 : Addr) := by decide
    have hpos : 0#2 ++ sext7 52 = (52 : Addr) := by decide
    exact fun _ => ⟨hneg, hpos⟩

/-- Settles O56: pops read from SP down what the pushes left there. -/
theorem stackIsLifoEightDeep : Obligations.StackIsLifoEightDeep := by
  intro s as
  rw [State.popAll_eq]
  apply List.ext_getElem
  · simp [Nat.min_comm]
  · intro k hk htake
    have hk8 : k < min as.length 8 := by simpa using hk
    have hlast : as.reverse[k]? = some ((as.reverse.take 8)[k]) := by
      rw [List.getElem_take, List.getElem?_eq_getElem]
    rw [List.getElem_map, List.getElem_range]
    exact s.pushAll_entry as k (by omega) _ hlast

end Sys2Proof.Proofs
end

section
/-! What any instruction can end in, said once, and the invariants of whole steps that follow from it. -/

namespace Sys2Proof.Machine

theorem State.accessed_fresh (s : State) : s.Accessed s.fresh.2 := rfl

/-- Clearing bits does not make %11 of another code. -/
theorem Psl.clear_cc_ne_three {p : Psl} (h : p.cc ≠ 0b11) (m : Psl) : (p.clear m).cc ≠ 0b11 := by
  have hbits : ∀ cc mask : BitVec 2, cc ≠ 0b11 → cc &&& ~~~mask ≠ 0b11 := by decide
  exact hbits p.cc m.cc h

/-! ### What an instruction does before it ends -/

/-- From `s` to `u` the instruction `i` has read, stepped an index register or operated: registers, scripts and flags may
differ, the modes and CC only as far as the kind of instruction allows. -/
structure Worked (i : Instr) (s u : State) : Prop where
  pc : u.pc = s.pc
  psu : u.psu = s.psu
  ras : u.ras = s.ras
  waiting : u.waiting = s.waiting
  mem : u.mem = s.mem
  cfg : u.cfg = s.cfg
  modes : i.writesModes = false → u.psl.rs = s.psl.rs ∧ u.psl.wc = s.psl.wc ∧ u.psl.com = s.psl.com
  cc : i.freesCC = false → s.psl.cc ≠ 0b11 → u.psl.cc ≠ 0b11

section
variable {i : Instr}

theorem Worked.trans {s u w : State} (h : Worked i s u) (k : Worked i u w) : Worked i s w where
  pc := k.pc.trans h.pc
  psu := k.psu.trans h.psu
  ras := k.ras.trans h.ras
  waiting := k.waiting.trans h.waiting
  mem := k.mem.trans h.mem
  cfg := k.cfg.trans h.cfg
  modes hi := by
    obtain ⟨hrs, hwc, hcom⟩ := h.modes hi
    obtain ⟨krs, kwc, kcom⟩ := k.modes hi
    exact ⟨krs.trans hrs, kwc.trans hwc, kcom.trans hcom⟩
  cc hi hs := k.cc hi (h.cc hi hs)

theorem Worked.of_accessed {s u : State} (h : s.Accessed u) : Worked i s u where
  pc := h.pc
  psu := h.psu
  ras := h.ras
  waiting := h.waiting
  mem := h.mem
  cfg := h.cfg
  modes _ := by rw [h.psl]; exact ⟨rfl, rfl, rfl⟩
  cc _ hs := by rwa [h.psl]

theorem Worked.refl (s : State) : Worked i s s := .of_accessed (.refl s)

theorem Worked.setReg (s : State) (r : Reg) (v : Byte) : Worked i s (s.setReg r v) where
  pc := s.setReg_pc r v
  psu := s.setReg_psu r v
  ras := s.setReg_ras r v
  waiting := s.setReg_waiting r v
  mem := s.setReg_mem r v
  cfg := s.setReg_cfg r v
  modes _ := by rw [State.setReg_psl]; exact ⟨rfl, rfl, rfl⟩
  cc _ hs := by rwa [State.setReg_psl]

theorem Worked.stepIndex (s : State) (r : Reg) (x : IndexCtl) : Worked i s (s.stepIndex r x) := by
  cases x with
  | none | plain => exact .refl s
  | inc | dec => exact .setReg s r _

/-- A write of PSL that the kind of instruction allows. -/
theorem Worked.setPsl {s : State} {p : Psl}
    (hmodes : i.writesModes = false → p.rs = s.psl.rs ∧ p.wc = s.psl.wc ∧ p.com = s.psl.com)
    (hcc : i.freesCC = false → s.psl.cc ≠ 0b11 → p.cc ≠ 0b11) : Worked i s (s.setPsl p) where
  pc := rfl
  psu := rfl
  ras := rfl
  waiting := rfl
  mem := rfl
  cfg := rfl
  modes := hmodes
  cc := hcc

theorem Worked.setCC (s : State) {cc : BitVec 2} (h : i.freesCC = false → cc ≠ 0b11) : Worked i s (s.setCC cc) :=
  .setPsl (fun _ => ⟨rfl, rfl, rfl⟩) fun hi _ => h hi

theorem Worked.setArith (s : State) (y : Alu) : Worked i s (s.setArith y) :=
  .setPsl (fun _ => ⟨rfl, rfl, rfl⟩) fun _ hs => hs

/-- CC from the sign of a byte is never %11. -/
theorem Worked.setSign (s : State) (v : Byte) : Worked i s (s.setCC (ccOf v)) := .setCC s fun _ => ccOf_ne_three v

theorem Worked.loadOp (r : Reg) (m : Byte) (s : State) : Worked i s (State.loadOp r m s) :=
  (Worked.setReg s r m).trans (.setSign _ m)

theorem Worked.writeAlu (r : Reg) (y : Alu) (s : State) : Worked i s (State.writeAlu r y s) :=
  ((Worked.setReg s r y.res).trans (.setArith _ y)).trans (.setSign _ y.res)

theorem Worked.writeLogic (r : Reg) (v : Byte) (s : State) : Worked i s (State.writeLogic r v s) :=
  (Worked.setReg s r v).trans (.setSign _ v)

theorem Worked.compareOp (r : Reg) (m : Byte) (s : State) : Worked i s (State.compareOp r m s) :=
  .setCC s fun _ => compareCC_ne_three _ _ _

theorem Worked.rotateOp (s : State) (r : Reg) (res8 : Byte) (res9 : Alu) : Worked i s (s.rotateOp r res8 res9) := by
  rw [State.rotateOp_eq]
  split
  · exact .writeAlu r res9 s
  · exact .loadOp r res8 s

end

/-! ### What an instruction can end in -/

/-- Everything an instruction that answers a next state can end in, and which instructions can. -/
inductive Ends (i : Instr) (s : State) : State → Prop where
  /-- In sequence; a subroutine branch only if it is not taken. -/
  | sequel {u : State} {len : Offset} {cyc : Nat} (h : Worked i s u) (hcall : i.calls = true → s.takesCall i = false)
      (hlen : len = BitVec.ofNat 13 (encode i).length := by rfl) (hrun : i ≠ .halt := by nofun) :
      Ends i s (u.retire len cyc)
  | branch {u : State} {ea : Addr} {cyc : Nat} (h : Worked i s u) (hi : i.branches = true := by rfl) :
      Ends i s (u.jump ea cyc)
  | call {u : State} {len : Offset} {ea : Addr} {cyc : Nat} (h : Worked i s u) (htaken : s.takesCall i = true)
      (hlen : len = BitVec.ofNat 13 (encode i).length := by rfl) (hi : i.calls = true := by rfl) :
      Ends i s (u.call len ea cyc)
  | retc {cyc : Nat} (hi : i.returns = true := by rfl) : Ends i s (s.pop.2.jump s.pop.1 cyc)
  | rete {cyc : Nat} {v : Cond} (hi : i = .rete v := by rfl) : Ends i s ((s.pop.2.setII false).jump s.pop.1 cyc)
  | store {u : State} {ea : Addr} {v : Byte} {len : Offset} {cyc : Nat} (h : Worked i s u)
      (hlen : len = BitVec.ofNat 13 (encode i).length := by rfl) (hi : i.stores = true := by rfl) :
      Ends i s ((u.memWrite ea v).retire len cyc)
  | psu {sel v : Byte} {len : Offset} {cyc : Nat} (hlen : len = BitVec.ofNat 13 (encode i).length := by rfl)
      (hi : i.writesPsu = true := by rfl) : Ends i s ((s.selectPsu sel v).retire len cyc)
  | halt (hi : i = .halt := by rfl) : Ends i s ((s.retire 1 2).setWaiting true)

/-- The outcome, if it is a next state, is one that `i` can end in. -/
def EndsIn (i : Instr) (s : State) (x : Host.Outcome State Fault Refusal) : Prop := ∀ t, x = .next t → Ends i s t

section
variable {i : Instr} {s : State}

theorem EndsIn.next {t : State} (h : Ends i s t) : EndsIn i s (.next t) := by
  intro t' ht
  cases ht
  exact h

theorem EndsIn.refused (r : Refusal) : EndsIn i s (.refused r) := nofun

theorem EndsIn.ite {c : Prop} [Decidable c] {x y : Host.Outcome State Fault Refusal} (hx : c → EndsIn i s x)
    (hy : ¬ c → EndsIn i s y) : EndsIn i s (if c then x else y) := by
  split_ifs with h
  · exact hx h
  · exact hy h

/-- An instruction of `len` bytes that is no subroutine branch and does not halt. -/
structure InSequence (i : Instr) (len : Offset) : Prop where
  call : i.calls = false
  length : len = BitVec.ofNat 13 (encode i).length
  runs : i ≠ .halt

theorem endsIn_retire {u : State} {len : Offset} {cyc : Nat} (hi : InSequence i len) (h : Worked i s u) :
    EndsIn i s (.next (u.retire len cyc)) :=
  .next (.sequel h (fun hcall => absurd hcall (by simp [hi.call])) hi.length hi.runs)

theorem endsIn_formZ {f : Reg → Byte → State → State} {r : Reg} (hi : InSequence i 1)
    (hf : ∀ r m u, Worked i u (f r m u)) : EndsIn i s (formZ f r s) :=
  endsIn_retire hi (hf _ _ _)

theorem endsIn_formI {f : Reg → Byte → State → State} {r : Reg} {v : Byte} (hi : InSequence i 2)
    (hf : ∀ r m u, Worked i u (f r m u)) : EndsIn i s (formI f r v s) :=
  endsIn_retire hi (hf _ _ _)

theorem endsIn_formR {f : Reg → Byte → State → State} {r : Reg} {b : Bool} {d : Disp} (hi : InSequence i 2)
    (hf : ∀ r m u, Worked i u (f r m u)) : EndsIn i s (formR f r b d s) :=
  endsIn_retire hi
    ((Worked.of_accessed ((s.accessed_eaR b d).trans (State.accessed_memRead _ _))).trans (hf _ _ _))

/-- The address of format A is formed by stepping the index register and reading a pointer. -/
theorem Worked.eaA {r opr : Reg} {b : Bool} {x : IndexCtl} {a : Offset} {ea : Addr} {u : State}
    (h : s.eaA r b x a = .next (ea, opr, u)) : Worked i s u := by
  obtain ⟨rfl, -⟩ := State.eaA_next h
  exact (Worked.stepIndex s r x).trans (.of_accessed (State.accessed_resolve _ _ _))

theorem endsIn_formA {f : Reg → Byte → State → State} {r : Reg} {b : Bool} {x : IndexCtl} {a : Offset}
    (hi : InSequence i 3) (hf : ∀ r m u, Worked i u (f r m u)) : EndsIn i s (formA f r b x a s) := by
  intro t ht
  obtain ⟨ea, opr, u, hea, rfl⟩ := formA_next ht
  exact endsIn_retire hi (((Worked.eaA hea).trans (.of_accessed (u.accessed_memRead ea))).trans (hf _ _ _)) _ rfl

theorem endsIn_branchR {taken b : Bool} {d : Disp} {u : State} (hi : InSequence i 2) (hbranch : i.branches = true)
    (h : Worked i s u) : EndsIn i s (branchR taken b d u) := by
  cases taken with
  | false => exact endsIn_retire hi h
  | true => exact .next (.branch (h.trans (.of_accessed (u.accessed_eaR b d))) hbranch)

theorem endsIn_branchB {taken b : Bool} {a : Addr} {u : State} (hi : InSequence i 3) (hbranch : i.branches = true)
    (h : Worked i s u) : EndsIn i s (branchB taken b a u) := by
  cases taken with
  | false => exact endsIn_retire hi h
  | true => exact .next (.branch (h.trans (.of_accessed (u.accessed_eaB b a))) hbranch)

/-- A subroutine branch of `len` bytes. -/
structure IsCall (i : Instr) (len : Offset) : Prop where
  call : i.calls = true
  length : len = BitVec.ofNat 13 (encode i).length
  runs : i ≠ .halt

theorem endsIn_call {len : Offset} {ea : Addr} {cyc : Nat} {u : State} (hi : IsCall i len) (h : s.Accessed u)
    (htaken : s.takesCall i = true) : EndsIn i s (.next (u.call len ea cyc)) :=
  .next (.call (.of_accessed h) htaken hi.length hi.call)

theorem endsIn_callR {b : Bool} {d : Disp} (hi : IsCall i 2) : EndsIn i s (callR (s.takesCall i) b d s) := by
  cases htaken : s.takesCall i with
  | false => exact .next (.sequel (.refl s) (fun _ => htaken) hi.length hi.runs)
  | true => exact endsIn_call hi (s.accessed_eaR b d) htaken

theorem endsIn_callB {b : Bool} {a : Addr} (hi : IsCall i 3) : EndsIn i s (callB (s.takesCall i) b a s) := by
  cases htaken : s.takesCall i with
  | false => exact .next (.sequel (.refl s) (fun _ => htaken) hi.length hi.runs)
  | true => exact endsIn_call hi (s.accessed_eaB b a) htaken

/-- A return, met or not. -/
theorem endsIn_return {met : Bool} {t : State} (hi : InSequence i 1) (h : Ends i s t) :
    EndsIn i s (.next (if met then t else s.retire 1 3)) := by
  cases met with
  | false => exact endsIn_retire hi (.refl s)
  | true => exact .next h

end

/-- The inversion of `exec`: an instruction that answers a next state ends in one of the ways of `Ends`. -/
theorem exec_ends (i : Instr) (s : State) : EndsIn i s (exec i s) := by
  cases i with
  | undef00 | undef90 | undef91 | undefB6 | undefB7 | undefC4 | undefC5 | undefC6 | undefC7 => exact .refused _
  | lodz r => exact .ite (fun _ => .refused _) fun _ => endsIn_formZ ⟨rfl, rfl, nofun⟩ Worked.loadOp
  | andz r => exact .ite (fun _ => .refused _) fun _ => endsIn_formZ ⟨rfl, rfl, nofun⟩ fun _ _ _ => .writeLogic _ _ _
  | addz r | subz r => exact endsIn_formZ ⟨rfl, rfl, nofun⟩ fun _ _ _ => .writeAlu _ _ _
  | iorz r | eorz r => exact endsIn_formZ ⟨rfl, rfl, nofun⟩ fun _ _ _ => .writeLogic _ _ _
  | comz r => exact endsIn_formZ ⟨rfl, rfl, nofun⟩ Worked.compareOp
  | lodi r v => exact endsIn_formI ⟨rfl, rfl, nofun⟩ Worked.loadOp
  | addi r v | subi r v => exact endsIn_formI ⟨rfl, rfl, nofun⟩ fun _ _ _ => .writeAlu _ _ _
  | iori r v | eori r v | andi r v => exact endsIn_formI ⟨rfl, rfl, nofun⟩ fun _ _ _ => .writeLogic _ _ _
  | comi r v => exact endsIn_formI ⟨rfl, rfl, nofun⟩ Worked.compareOp
  | lodr r b d => exact endsIn_formR ⟨rfl, rfl, nofun⟩ Worked.loadOp
  | addr r b d | subr r b d => exact endsIn_formR ⟨rfl, rfl, nofun⟩ fun _ _ _ => .writeAlu _ _ _
  | iorr r b d | eorr r b d | andr r b d => exact endsIn_formR ⟨rfl, rfl, nofun⟩ fun _ _ _ => .writeLogic _ _ _
  | comr r b d => exact endsIn_formR ⟨rfl, rfl, nofun⟩ Worked.compareOp
  | loda r b x a => exact endsIn_formA ⟨rfl, rfl, nofun⟩ Worked.loadOp
  | adda r b x a | suba r b x a => exact endsIn_formA ⟨rfl, rfl, nofun⟩ fun _ _ _ => .writeAlu _ _ _
  | iora r b x a | eora r b x a | anda r b x a =>
    exact endsIn_formA ⟨rfl, rfl, nofun⟩ fun _ _ _ => .writeLogic _ _ _
  | coma r b x a => exact endsIn_formA ⟨rfl, rfl, nofun⟩ Worked.compareOp
  | strz r => exact .ite (fun _ => .refused _) fun _ => endsIn_retire ⟨rfl, rfl, nofun⟩ (.loadOp _ _ s)
  | strr r b d => exact .next (.store (.of_accessed (s.accessed_eaR b d)))
  | stra r b x a =>
    intro t ht
    obtain ⟨⟨ea, opr, u⟩, hea, hnext⟩ := andThen_eq_next.mp ht
    exact EndsIn.next (.store (.eaA hea)) t hnext
  | stpl b a => exact .ite (fun _ => .refused _) fun _ => .next (.store (.of_accessed (s.accessed_eaB b a)))
  | ldpl b a =>
    exact .ite (fun _ => .refused _) fun _ =>
      endsIn_retire ⟨rfl, rfl, nofun⟩ ((Worked.of_accessed ((s.accessed_eaB b a).trans
        (State.accessed_memRead _ _))).trans (.setPsl nofun nofun))
  | lpsl => exact endsIn_retire ⟨rfl, rfl, nofun⟩ (.setPsl nofun nofun)
  | ppsl m => exact endsIn_retire ⟨rfl, rfl, nofun⟩ (.setPsl nofun nofun)
  | cpsl m => exact endsIn_retire ⟨rfl, rfl, nofun⟩ (.setPsl nofun fun _ hs => Psl.clear_cc_ne_three hs _)
  | spsu => exact endsIn_retire ⟨rfl, rfl, nofun⟩ ((Worked.of_accessed s.accessed_drawSense).trans (.loadOp _ _ _))
  | spsl => exact endsIn_retire ⟨rfl, rfl, nofun⟩ (.loadOp _ _ s)
  | tpsu m =>
    exact endsIn_retire ⟨rfl, rfl, nofun⟩
      ((Worked.of_accessed s.accessed_drawSense).trans (.setCC _ fun _ => testCC_ne_three _ _))
  | tpsl m | tmi r m => exact endsIn_retire ⟨rfl, rfl, nofun⟩ (.setCC _ fun _ => testCC_ne_three _ _)
  | lpsu | cpsu m | ppsu m => exact .next .psu
  | rrl r | rrr r => exact endsIn_retire ⟨rfl, rfl, nofun⟩ (.rotateOp _ _ _ _)
  | dar r =>
    exact endsIn_retire ⟨rfl, rfl, nofun⟩
      (((Worked.setReg s r _).trans (.of_accessed (State.accessed_fresh _))).trans (.setCC _ nofun))
  | nop => exact endsIn_retire ⟨rfl, rfl, nofun⟩ (.refl s)
  | halt => exact .next .halt
  | redc r | redd r | rede r port =>
    exact endsIn_retire ⟨rfl, rfl, nofun⟩ ((Worked.of_accessed (s.accessed_ioRead _)).trans (.loadOp _ _ _))
  | wrtc r | wrtd r | wrte r port => exact endsIn_retire ⟨rfl, rfl, nofun⟩ (.of_accessed (s.accessed_emit _))
  | bctr v b d | brnr r b d => exact endsIn_branchR ⟨rfl, rfl, nofun⟩ rfl (.refl s)
  | bcta v b a | brna r b a => exact endsIn_branchB ⟨rfl, rfl, nofun⟩ rfl (.refl s)
  | bcfr v b d => exact .ite (fun _ => .refused _) fun _ => endsIn_branchR ⟨rfl, rfl, nofun⟩ rfl (.refl s)
  | bcfa v b a => exact .ite (fun _ => .refused _) fun _ => endsIn_branchB ⟨rfl, rfl, nofun⟩ rfl (.refl s)
  | birr r b d | bdrr r b d => exact endsIn_branchR ⟨rfl, rfl, nofun⟩ rfl (.setReg s r _)
  | bira r b a | bdra r b a => exact endsIn_branchB ⟨rfl, rfl, nofun⟩ rfl (.setReg s r _)
  | zbrr b d => exact .next (.branch (.of_accessed (s.accessed_eaZ0 b d)))
  | bxa b a =>
    intro t ht
    obtain ⟨⟨ea, u⟩, hea, hnext⟩ := andThen_eq_next.mp ht
    obtain ⟨rfl, -⟩ := State.eaX_next hea
    exact EndsIn.next (.branch (.of_accessed (s.accessed_eaB b a))) t hnext
  | bstr v b d => exact exec_bstr v b d s ▸ endsIn_callR ⟨rfl, rfl, nofun⟩
  | bsta v b a => exact exec_bsta v b a s ▸ endsIn_callB ⟨rfl, rfl, nofun⟩
  | bsnr r b d => exact exec_bsnr r b d s ▸ endsIn_callR ⟨rfl, rfl, nofun⟩
  | bsna r b a => exact exec_bsna r b a s ▸ endsIn_callB ⟨rfl, rfl, nofun⟩
  | bsfr v b d =>
    exact .ite (fun _ => .refused _) fun hv =>
      State.condFalse_eq_not_holds s hv ▸ endsIn_callR (i := .bsfr v b d) ⟨rfl, rfl, nofun⟩
  | bsfa v b a =>
    exact .ite (fun _ => .refused _) fun hv =>
      State.condFalse_eq_not_holds s hv ▸ endsIn_callB (i := .bsfa v b a) ⟨rfl, rfl, nofun⟩
  | zbsr b d => exact endsIn_call ⟨rfl, rfl, nofun⟩ (s.accessed_eaZ0 b d) rfl
  | bsxa b a =>
    intro t ht
    obtain ⟨⟨ea, u⟩, hea, hnext⟩ := andThen_eq_next.mp ht
    obtain ⟨rfl, -⟩ := State.eaX_next hea
    exact endsIn_call (i := .bsxa b a) ⟨rfl, rfl, nofun⟩ (s.accessed_eaB b a) rfl t hnext
  | retc v => exact exec_retc v s ▸ endsIn_return ⟨rfl, rfl, nofun⟩ .retc
  | rete v => exact exec_rete v s ▸ endsIn_return ⟨rfl, rfl, nofun⟩ .rete

end Sys2Proof.Machine
end

section
/-! Invariants of instructions and of steps, each read off the ways an instruction can end. -/

namespace Sys2Proof.Machine

/-! ### Steps by cases -/

theorem State.accessed_fetch (s : State) : s.Accessed s.fetch.2 := by
  have h0 := s.accessed_memRead s.pc
  unfold State.fetch
  dsimp only
  split
  · exact h0
  · exact h0.trans (State.accessed_memRead _ _)
  · exact (h0.trans (State.accessed_memRead _ _)).trans (State.accessed_memRead _ _)

/-- What a step can be, up to samples and fetched bytes: a reset, an acceptance, waiting, or an instruction. -/
inductive Steps (s : State) : State → Prop where
  | reset {u : State} (v : ResetValues) (h : s.Accessed u) : Steps s (u.resetEvent v)
  | accept {u : State} (h : s.Accessed u) : Steps s u.takeInterrupt
  | wait {u : State} (h : s.Accessed u) : Steps s u
  | run {i : Instr} {u t : State} (h : s.Accessed u) (hends : Ends i u t) : Steps s t

theorem step_steps {s t : State} (h : step s = .next t) : Steps s t := by
  have hreset := s.accessed_drawReset
  unfold step State.runStep at h
  split at h
  · next v s1 hdraw =>
    rw [hdraw] at hreset
    cases h
    exact .reset v hreset
  · next s1 hdraw =>
    rw [hdraw] at hreset
    have hsampled := hreset.trans s1.accessed_drawIntReq
    dsimp only at h
    split_ifs at h with haccept hwait
    · cases h
      exact .accept hsampled
    · cases h
      exact .wait hsampled
    · exact .run (hsampled.trans (State.accessed_fetch _)) (exec_ends _ _ t h)

/-! ### The parameters -/

theorem Ends.cfg {i : Instr} {s t : State} (h : Ends i s t) : t.cfg = s.cfg := by
  cases h with
  | sequel h | branch h | call h => exact h.cfg
  | store h => exact (State.memWrite_cfg _ _ _).trans h.cfg
  | retc | rete => rfl
  | psu => exact State.selectPsu_cfg _ _ _
  | halt => exact State.setWaiting_cfg _ _

theorem State.takeInterrupt_cfg (s : State) : s.takeInterrupt.cfg = s.cfg := by
  rw [State.takeInterrupt_eq_jump]
  exact s.accessed_vectored.cfg.trans (s.setWaiting_cfg false)

theorem State.resetEvent_cfg (s : State) (v : ResetValues) : (s.resetEvent v).cfg = s.cfg := s.setWaiting_cfg false

/-! ### The invariant of good states (20_memory.md R60, 10_state.md R38) -/

theorem State.good_iff (s : State) : s.good = true ↔ s.mem.wf = true ∧ s.psu &&& 0b10011000#8 = 0 := by
  rw [State.good, Bool.and_eq_true, beq_iff_eq]

theorem Ends.mem_wf {i : Instr} {s t : State} (h : Ends i s t) (hs : s.mem.wf = true) : t.mem.wf = true := by
  cases h with
  | sequel h | branch h | call h => exact h.mem ▸ hs
  | store h => exact State.memWrite_wf (h.mem ▸ hs) _ _
  | retc | rete => exact hs
  | psu => exact (State.selectPsu_mem _ _ _).symm ▸ hs
  | halt => exact (State.setWaiting_mem _ _).symm ▸ hs

/-- No instruction writes PSU's bits 7, 4 and 3. -/
theorem Ends.psu_reserved {i : Instr} {s t : State} (h : Ends i s t) :
    t.psu &&& 0b10011000#8 = s.psu &&& 0b10011000#8 := by
  cases h with
  | sequel h | branch h => exact congrArg (· &&& 0b10011000#8) h.psu
  | call h => exact (putSp_reserved _ _).trans (congrArg (· &&& 0b10011000#8) h.psu)
  | store h => exact congrArg (· &&& 0b10011000#8) ((State.memWrite_psu _ _ _).trans h.psu)
  | retc => exact putSp_reserved _ _
  | rete => exact (putBit5_reserved _ _).trans (putSp_reserved _ _)
  | psu => exact (congrArg (· &&& 0b10011000#8) (State.selectPsu_psu _ _ _)).trans (putPsu_reserved _ _ _)
  | halt => exact congrArg (· &&& 0b10011000#8) (State.setWaiting_psu _ _)

theorem Ends.good {i : Instr} {s t : State} (h : Ends i s t) (hs : s.good = true) : t.good = true := by
  rw [State.good_iff] at hs ⊢
  exact ⟨h.mem_wf hs.1, h.psu_reserved.trans hs.2⟩

theorem State.Accessed.good {s u : State} (h : s.Accessed u) (hs : s.good = true) : u.good = true := by
  rw [State.good, h.mem, h.psu]
  exact hs

theorem State.good_takeInterrupt {s : State} (hs : s.good = true) : s.takeInterrupt.good = true := by
  have hacc := s.accessed_vectored
  have hmem : s.takeInterrupt.mem = s.mem := by
    rw [State.takeInterrupt_eq_jump]
    exact hacc.mem.trans (s.setWaiting_mem false)
  have hpsu : s.takeInterrupt.psu &&& 0b10011000#8 = s.psu &&& 0b10011000#8 := by
    rw [State.takeInterrupt_eq_jump, State.jump_psu, State.fresh_psu, State.push_psu, putSp_reserved, State.setII_psu,
      putBit5_reserved, hacc.psu, State.setWaiting_psu]
  rw [State.good_iff] at hs ⊢
  rw [hmem, hpsu]
  exact hs

theorem State.good_resetEvent {s : State} (v : ResetValues) (hs : s.good = true) : (s.resetEvent v).good = true := by
  obtain ⟨-, -, -, hreserved⟩ := resetPsu_fields v.flag v.sp
  have hmem : (s.resetEvent v).mem = s.mem := s.setWaiting_mem false
  rw [State.good_iff] at hs ⊢
  exact ⟨hmem ▸ hs.1, hreserved⟩

/-! ### PSL, PSU and the stack -/

theorem Ends.modes {i : Instr} {s t : State} (h : Ends i s t) (hi : i.writesModes = false) :
    t.psl.rs = s.psl.rs ∧ t.psl.wc = s.psl.wc ∧ t.psl.com = s.psl.com := by
  cases h with
  | sequel h | branch h | call h => exact h.modes hi
  | store h =>
    rw [State.retire_psl, State.memWrite_psl]
    exact h.modes hi
  | retc | rete => exact ⟨rfl, rfl, rfl⟩
  | psu =>
    rw [State.retire_psl, State.selectPsu_psl]
    exact ⟨rfl, rfl, rfl⟩
  | halt =>
    rw [State.setWaiting_psl]
    exact ⟨rfl, rfl, rfl⟩

theorem Ends.cc_ne_three {i : Instr} {s t : State} (h : Ends i s t) (hi : i.freesCC = false)
    (hs : s.psl.cc ≠ 0b11) : t.psl.cc ≠ 0b11 := by
  cases h with
  | sequel h | branch h | call h => exact h.cc hi hs
  | store h =>
    rw [State.retire_psl, State.memWrite_psl]
    exact h.cc hi hs
  | retc | rete => exact hs
  | psu => rwa [State.retire_psl, State.selectPsu_psl]
  | halt => rwa [State.setWaiting_psl]

theorem State.flag_congr {s t : State} (h : t.psu = s.psu) : t.flag = s.flag := by rw [State.flag, State.flag, h]

theorem State.ii_congr {s t : State} (h : t.psu = s.psu) : t.ii = s.ii := by rw [State.ii, State.ii, h]

theorem State.sp_congr {s t : State} (h : t.psu = s.psu) : t.sp = s.sp := by rw [State.sp, State.sp, h]

/-- A push or a pop leaves F and II. -/
theorem State.flag_of_putSp {s t : State} {sp : BitVec 3} (h : t.psu = putSp s.psu sp) : t.flag = s.flag := by
  rw [State.flag, h, putSp_flag]
  rfl

theorem State.ii_of_putSp {s t : State} {sp : BitVec 3} (h : t.psu = putSp s.psu sp) : t.ii = s.ii := by
  rw [State.ii, h, putSp_ii]
  rfl

theorem Worked.call_psu {i : Instr} {s u : State} (h : Worked i s u) (len : Offset) (ea : Addr) (cyc : Nat) :
    (u.call len ea cyc).psu = putSp s.psu (s.sp + 1) := by
  rw [State.call_psu, h.psu, State.sp_congr h.psu]

theorem Ends.flag {i : Instr} {s t : State} (h : Ends i s t) (hi : i.writesPsu = false) : t.flag = s.flag := by
  cases h with
  | sequel h | branch h => exact State.flag_congr h.psu
  | call h => exact State.flag_of_putSp (h.call_psu _ _ _)
  | store h => exact State.flag_congr ((State.memWrite_psu _ _ _).trans h.psu)
  | retc => exact State.flag_of_putSp s.pop_psu
  | rete => exact (putBit5_flag _ _).trans (State.flag_of_putSp s.pop_psu)
  | psu _ hwrites => exact absurd hwrites (ne_true_of_eq_false hi)
  | halt => exact State.flag_congr (State.setWaiting_psu _ _)

theorem Ends.ii {i : Instr} {s t : State} (h : Ends i s t) (hi : i.writesPsu = false) (hrete : ∀ v, i ≠ .rete v) :
    t.ii = s.ii := by
  cases h with
  | sequel h | branch h => exact State.ii_congr h.psu
  | call h => exact State.ii_of_putSp (h.call_psu _ _ _)
  | store h => exact State.ii_congr ((State.memWrite_psu _ _ _).trans h.psu)
  | retc => exact State.ii_of_putSp s.pop_psu
  | rete hi => exact absurd hi (hrete _)
  | psu _ hwrites => exact absurd hwrites (ne_true_of_eq_false hi)
  | halt => exact State.ii_congr (State.setWaiting_psu _ _)

theorem Ends.sp {i : Instr} {s t : State} (h : Ends i s t) (hi : i.writesPsu = false) (hcall : i.calls = false)
    (hret : i.returns = false) : t.sp = s.sp := by
  cases h with
  | sequel h | branch h => exact State.sp_congr h.psu
  | call _ _ _ hcalls => exact absurd hcalls (ne_true_of_eq_false hcall)
  | store h => exact State.sp_congr ((State.memWrite_psu _ _ _).trans h.psu)
  | retc hreturns => exact absurd hreturns (ne_true_of_eq_false hret)
  | rete hrete => exact absurd hret (by rw [hrete]; nofun)
  | psu _ hwrites => exact absurd hwrites (ne_true_of_eq_false hi)
  | halt => exact State.sp_congr (State.setWaiting_psu _ _)

theorem Ends.entry {i : Instr} {s t : State} (h : Ends i s t) (hcall : i.calls = false) (k : BitVec 3) :
    t.entry k = s.entry k := by
  cases h with
  | sequel h | branch h => exact State.entry_congr h.ras k
  | call _ _ _ hcalls => exact absurd hcalls (ne_true_of_eq_false hcall)
  | store h => exact State.entry_congr ((State.memWrite_ras _ _ _).trans h.ras) k
  | retc | rete => rfl
  | psu => exact State.entry_congr (State.selectPsu_ras _ _ _) k
  | halt => exact State.entry_congr (State.setWaiting_ras _ _) k

/-! ### Memory, `pc`, the run/wait flag -/

theorem Ends.mem {i : Instr} {s t : State} (h : Ends i s t) (hi : i.stores = false) : t.mem = s.mem := by
  cases h with
  | sequel h | branch h | call h => exact h.mem
  | store _ _ hstores => exact absurd hstores (ne_true_of_eq_false hi)
  | retc | rete => rfl
  | psu => exact State.selectPsu_mem _ _ _
  | halt => exact State.setWaiting_mem _ _

theorem Ends.pc {i : Instr} {s t : State} (h : Ends i s t) (hbranch : i.branches = false) (hcall : i.calls = false)
    (hret : i.returns = false) : t.pc = s.nextOf i := by
  cases h with
  | sequel h _ hlen => rw [State.retire_pc, h.pc, hlen, State.nextOf]
  | branch _ hbranches => exact absurd hbranches (ne_true_of_eq_false hbranch)
  | call _ _ _ hcalls => exact absurd hcalls (ne_true_of_eq_false hcall)
  | store h hlen => rw [State.retire_pc, State.memWrite_pc, h.pc, hlen, State.nextOf]
  | retc hreturns => exact absurd hreturns (ne_true_of_eq_false hret)
  | rete hrete => exact absurd hret (by rw [hrete]; nofun)
  | psu hlen => rw [State.retire_pc, State.selectPsu_pc, hlen, State.nextOf]
  | halt hi =>
    rw [State.setWaiting_pc, hi]
    rfl

/-- The instructions of a kind that HALT is not of. -/
theorem waiting_of_ne_halt {i : Instr} {s t : State} (h : t.waiting = s.waiting) (hi : i ≠ .halt) :
    t.waiting = (s.waiting || decide (i = .halt)) := by
  rw [h, decide_eq_false hi, Bool.or_false]

theorem Ends.waiting {i : Instr} {s t : State} (h : Ends i s t) :
    t.waiting = (s.waiting || decide (i = .halt)) := by
  cases h with
  | sequel h _ _ hrun => exact waiting_of_ne_halt h.waiting hrun
  | branch h hi => exact waiting_of_ne_halt h.waiting (by rintro rfl; cases hi)
  | call h _ _ hi => exact waiting_of_ne_halt h.waiting (by rintro rfl; cases hi)
  | retc hi => exact waiting_of_ne_halt rfl (by rintro rfl; cases hi)
  | rete hi => exact waiting_of_ne_halt rfl (by rintro rfl; cases hi)
  | store h _ hi =>
    exact waiting_of_ne_halt ((State.memWrite_waiting _ _ _).trans h.waiting) (by rintro rfl; cases hi)
  | psu _ hi => exact waiting_of_ne_halt (State.selectPsu_waiting _ _ _) (by rintro rfl; cases hi)
  | halt hi => rw [State.setWaiting_waiting, decide_eq_true hi, Bool.or_true]

/-! ### Pushes -/

/-- A subroutine branch is of none of the other kinds. -/
theorem calls_disjoint {i : Instr} (h : i.calls = true) :
    i.branches = false ∧ i.returns = false ∧ i.stores = false ∧ i.writesPsu = false := by
  cases i with
  | bstr | bsta | bsfr | bsfa | bsnr | bsna | bsxa | zbsr => exact ⟨rfl, rfl, rfl, rfl⟩
  | _ => cases h

theorem State.push_sp_toNat (s : State) (a : Addr) : (s.push a).sp.toNat = (s.sp.toNat + 1) % 8 := by
  rw [State.push_sp, BitVec.toNat_add]
  rfl

/-- A subroutine branch that ends in a call pushes the address of the byte after it. -/
theorem Worked.call_entry {i : Instr} {s u : State} (h : Worked i s u) {len : Offset}
    (hlen : len = BitVec.ofNat 13 (encode i).length) (ea : Addr) (cyc : Nat) (k : BitVec 3) :
    (u.call len ea cyc).entry k = if k = s.sp + 1 then s.nextOf i else s.entry k := by
  have hentry : u.entry k = s.entry k := State.entry_congr h.ras k
  calc (u.call len ea cyc).entry k
      = (u.push (inpage u.pc len)).entry k := rfl
    _ = if k = s.sp + 1 then s.nextOf i else s.entry k := by
      rw [State.push_entry, State.sp_congr h.psu, h.pc, hentry, hlen, State.nextOf]

theorem State.call_sp {i : Instr} {s u : State} (h : Worked i s u) (len : Offset) (ea : Addr) (cyc : Nat) :
    (u.call len ea cyc).sp = s.sp + 1 := by
  rw [State.sp, h.call_psu, putSp_sp]

theorem State.takeInterrupt_sp (s : State) : s.takeInterrupt.sp = s.sp + 1 := by
  have hsp : s.vectored.2.sp = s.sp := s.accessed_vectored.sp.trans (State.sp_congr (s.setWaiting_psu false))
  rw [State.takeInterrupt_eq_jump, State.jump_sp]
  calc ((s.vectored.2.setII true).push s.vectored.2.pc).sp
      = s.vectored.2.sp + 1 := by rw [State.push_sp, State.setII_sp]
    _ = s.sp + 1 := by rw [hsp]

theorem State.takeInterrupt_entry (s : State) (k : BitVec 3) :
    s.takeInterrupt.entry k = if k = s.sp + 1 then s.pc else s.entry k := by
  have hacc := s.accessed_vectored
  have hsp : s.vectored.2.sp = s.sp := hacc.sp.trans (State.sp_congr (s.setWaiting_psu false))
  have hpc : s.vectored.2.pc = s.pc := hacc.pc.trans (s.setWaiting_pc false)
  have hentry : s.vectored.2.entry k = s.entry k :=
    (State.entry_congr hacc.ras k).trans (State.entry_congr (s.setWaiting_ras false) k)
  rw [State.takeInterrupt_eq_jump, State.jump_entry]
  calc ((s.vectored.2.setII true).push s.vectored.2.pc).entry k
      = if k = s.vectored.2.sp + 1 then s.vectored.2.pc else s.vectored.2.entry k := by
        rw [State.push_entry, State.setII_sp, State.setII_entry]
    _ = if k = s.sp + 1 then s.pc else s.entry k := by rw [hsp, hpc, hentry]

end Sys2Proof.Machine

namespace Sys2Proof.Proofs
open Sys2Proof.Machine

/-- Settles O10: every kind of step keeps both halves of the invariant; of the instructions only the stores write memory
and only whole-field writes reach PSU. -/
theorem stepKeepsGoodStates : Obligations.StepKeepsGoodStates := by
  intro s t hgood hstep
  cases step_steps hstep with
  | reset v h => exact State.good_resetEvent v (h.good hgood)
  | accept h => exact State.good_takeInterrupt (h.good hgood)
  | wait h => exact h.good hgood
  | run h hends => exact hends.good (h.good hgood)

/-- Settles O11: the reset state, evaluated. -/
theorem resetIsGood : Obligations.ResetIsGood := ⟨by decide, by decide, rfl⟩

/-- Settles O12: no kind of step writes the parameters. -/
theorem stepKeepsParameters : Obligations.StepKeepsParameters := by
  intro s t hstep
  cases step_steps hstep with
  | reset v h => exact (State.resetEvent_cfg _ v).trans h.cfg
  | accept h => exact (State.takeInterrupt_cfg _).trans h.cfg
  | wait h => exact h.cfg
  | run h hends => exact hends.cfg.trans h.cfg

/-- Settles O14: the one ending that writes memory is a store's. -/
theorem onlyStoresWriteMemory : Obligations.OnlyStoresWriteMemory :=
  fun i s t hi hexec => State.peek_congr ((exec_ends i s t hexec).mem hi)

/-- Settles O15: every ending but a jump is at the next byte, in the page of the instruction. -/
theorem onlyBranchesChangeThePage : Obligations.OnlyBranchesChangeThePage := by
  intro i s t hbranch hcall hret hexec
  have hpc : t.pc = s.nextOf i := (exec_ends i s t hexec).pc hbranch hcall hret
  exact ⟨by rw [hpc, State.nextOf, page_inpage], hpc⟩

/-- Settles O16, by the endings an instruction can have: only those of the four write the modes. -/
theorem onlyPslWritesChangeModes : Obligations.OnlyPslWritesChangeModes :=
  fun i s t hi hexec => (exec_ends i s t hexec).modes hi

/-- Settles O17: an ending that sets CC sets it from a sign, a test or an order. -/
theorem noOtherInstructionSetsCCThree : Obligations.NoOtherInstructionSetsCCThree :=
  fun i s t hi hcc hexec => (exec_ends i s t hexec).cc_ne_three hi hcc

/-- Settles O18: the endings that write PSU are those of the named instructions. -/
theorem writersOfPsuAndStack : Obligations.WritersOfPsuAndStack := by
  intro i s t hexec
  have hends := exec_ends i s t hexec
  exact ⟨hends.flag, hends.ii, hends.sp, hends.entry⟩

/-- Settles O19: the flag of the ending is that of the state before, but for HALT. -/
theorem onlyHaltWaits : Obligations.OnlyHaltWaits :=
  fun i s t hexec => (exec_ends i s t hexec).waiting

/-- Settles O54: a subroutine branch ends in a call if it is taken and in sequence if not; an acceptance pushes as a call
does. -/
theorem pushIncrementsThenStores : Obligations.PushIncrementsThenStores := by
  refine ⟨State.push_view, State.push_sp_toNat, ?calls, fun s => ⟨s.takeInterrupt_sp, ?top, fun k hk => ?below⟩⟩
  case top => rw [State.takeInterrupt_entry, if_pos rfl]
  case below => rw [State.takeInterrupt_entry, if_neg hk]
  case calls =>
    intro i s t hcalls hexec
    obtain ⟨hbranch, hret, hstore, hpsu⟩ := calls_disjoint hcalls
    cases exec_ends i s t hexec with
    | sequel h hcall =>
      rw [if_neg (ne_true_of_eq_false (hcall hcalls))]
      exact ⟨State.sp_congr h.psu, State.entry_congr h.ras⟩
    | call h htaken hlen =>
      have hsp := State.call_sp h
      rw [if_pos htaken, hsp, h.call_entry hlen, if_pos rfl]
      exact ⟨rfl, rfl, fun k hk => by rw [h.call_entry hlen, if_neg hk]⟩
    | branch _ hi => exact absurd hi (ne_true_of_eq_false hbranch)
    | retc hi => exact absurd hi (ne_true_of_eq_false hret)
    | store _ _ hi => exact absurd hi (ne_true_of_eq_false hstore)
    | psu _ hi => exact absurd hi (ne_true_of_eq_false hpsu)
    | rete hi | halt hi =>
      rw [hi] at hcalls
      cases hcalls

end Sys2Proof.Proofs
end

section
/-! What an instruction does not see: a change of the state that commutes with each operation commutes with every
instruction that uses these operations alone. -/

namespace Sys2Proof.Machine

/-! ### The writes of one field that the model makes without a name -/

def State.setRas (s : State) (v : Vector Addr 8) : State := { s with ras := v }

def State.setRun (s : State) (b : Bool) : State := { s with waiting := b }

def State.setMem (s : State) (m : Memory) : State := { s with mem := m }

theorem State.push_eq (s : State) (a : Addr) :
    s.push a = (s.setSp (s.sp + 1)).setRas (s.ras.set (s.sp + 1).toNat a (s.sp + 1).isLt) := rfl

theorem State.setWaiting_eq_setRun (s : State) (b : Bool) :
    s.setWaiting b = if s.waiting = b then s else (s.setRun b).emit (.waitLine b) := rfl

theorem State.memWrite_ram_eq_setMem {s : State} {a : Addr} (h : s.kindAt a = .ram) (v : Byte) :
    s.memWrite a v = s.setMem (s.mem.write a.toNat v) := State.memWrite_ram h v

/-- The change `g` commutes with the operations an instruction is made of, in the states of `C`, which the parameters and
RS decide; the draws of the SENSE pin and of the ports are left out. -/
structure Unseen (C : State → Prop) (g : State → State) : Prop extends PassesReads C g where
  congr : ∀ {s t : State}, t.cfg = s.cfg → t.psl.rs = s.psl.rs → C s → C t
  getReg : ∀ {s}, C s → ∀ r, (g s).getReg r = s.getReg r
  setReg : ∀ {s}, C s → ∀ r v, (g s).setReg r v = g (s.setReg r v)
  psl : ∀ s, (g s).psl = s.psl
  psu : ∀ s, (g s).psu = s.psu
  ras : ∀ s, (g s).ras = s.ras
  waiting : ∀ s, (g s).waiting = s.waiting
  mem : ∀ s, (g s).mem = s.mem
  cfg : ∀ s, (g s).cfg = s.cfg
  setPsl : ∀ s p, (g s).setPsl p = g (s.setPsl p)
  setPsu : ∀ s v, (g s).setPsu v = g (s.setPsu v)
  setRas : ∀ s v, (g s).setRas v = g (s.setRas v)
  setRun : ∀ s b, (g s).setRun b = g (s.setRun b)
  setMem : ∀ s m, (g s).setMem m = g (s.setMem m)
  emit : ∀ s e, (g s).emit e = g (s.emit e)
  fresh : ∀ s, (g s).fresh = (s.fresh.1, g s.fresh.2)
  jump : ∀ s a n, (g s).jump a n = g (s.jump a n)

/-- The change `g` commutes with the draws of the SENSE pin and of the ports. -/
structure PassesDraws (g : State → State) : Prop where
  drawSense : ∀ s, (g s).drawSense = (s.drawSense.1, g s.drawSense.2)
  drawIoRead : ∀ s, (g s).drawIoRead = (s.drawIoRead.1, g s.drawIoRead.2)

section
variable {C : State → Prop} {g : State → State} (hg : Unseen C g)
include hg

/-! ### The other operations -/

theorem Unseen.setCC (s : State) (cc : BitVec 2) : (g s).setCC cc = g (s.setCC cc) := by
  rw [State.setCC, hg.psl, hg.setPsl]
  rfl

theorem Unseen.setArith (s : State) (y : Alu) : (g s).setArith y = g (s.setArith y) := by
  rw [State.setArith, hg.psl, hg.setPsl]
  rfl

theorem Unseen.setII (s : State) (b : Bool) : (g s).setII b = g (s.setII b) := by
  rw [State.setII, hg.psu, hg.setPsu]
  rfl

theorem Unseen.sp (s : State) : (g s).sp = s.sp := State.sp_congr (hg.psu s)

theorem Unseen.setSp (s : State) (sp : BitVec 3) : (g s).setSp sp = g (s.setSp sp) := by
  rw [State.setSp, hg.psu, hg.setPsu]
  rfl

theorem Unseen.push (s : State) (a : Addr) : (g s).push a = g (s.push a) := by
  simp only [State.push_eq, hg.sp, hg.ras, hg.setSp, hg.setRas]

theorem Unseen.pop (s : State) : (g s).pop = (s.pop.1, g s.pop.2) := by
  simp only [State.pop, hg.sp, hg.ras, hg.setSp]

theorem Unseen.selectPsu (s : State) (sel v : Byte) : (g s).selectPsu sel v = g (s.selectPsu sel v) := by
  unfold State.selectPsu
  dsimp only
  rw [hg.psu, hg.setPsu]
  split
  · rw [hg.emit, State.flag, hg.psu]
    rfl
  · rfl

theorem Unseen.setWaiting (s : State) (b : Bool) : (g s).setWaiting b = g (s.setWaiting b) := by
  rw [State.setWaiting_eq_setRun, State.setWaiting_eq_setRun, hg.waiting, hg.setRun, hg.emit, apply_ite g]

theorem Unseen.memWrite (s : State) (a : Addr) (v : Byte) : (g s).memWrite a v = g (s.memWrite a v) := by
  have hkind : (g s).kindAt a = s.kindAt a := State.kindAt_congr (hg.cfg s) a
  cases hs : s.kindAt a with
  | ram =>
    rw [State.memWrite_ram_eq_setMem (hkind.trans hs), State.memWrite_ram_eq_setMem hs, hg.mem, hg.setMem]
  | device => rw [State.memWrite_device (hkind.trans hs), State.memWrite_device hs, hg.emit]
  | rom => rw [State.memWrite_dropped (.inl (hkind.trans hs)), State.memWrite_dropped (.inl hs)]
  | absent => rw [State.memWrite_dropped (.inr (hkind.trans hs)), State.memWrite_dropped (.inr hs)]

/-- The end of an instruction is a jump to the next byte. -/
theorem Unseen.retire (s : State) (len : Offset) (n : Nat) : (g s).retire len n = g (s.retire len n) :=
  calc (g s).retire len n
      = (g s).jump (inpage (g s).pc len) n := rfl
    _ = g (s.jump (inpage s.pc len) n) := by rw [hg.pc, hg.jump]
    _ = g (s.retire len n) := rfl

theorem Unseen.call (s : State) (len : Offset) (ea : Addr) (n : Nat) :
    (g s).call len ea n = g (s.call len ea n) := by
  rw [State.call, hg.pc, hg.push, hg.jump]
  rfl

/-! ### The operations of the arithmetic group -/

/-- The operation `f` on a register and an operand commutes with `g`. -/
def OpCommutes (C : State → Prop) (g : State → State) (f : Reg → Byte → State → State) : Prop :=
  ∀ r m s, C s → f r m (g s) = g (f r m s)

theorem Unseen.loadOp : OpCommutes C g State.loadOp := by
  intro r m s hs
  rw [State.loadOp, hg.setReg hs, hg.setCC]
  rfl

theorem Unseen.writeAlu (y : Alu) {s : State} (hs : C s) (r : Reg) :
    State.writeAlu r y (g s) = g (State.writeAlu r y s) := by
  rw [State.writeAlu, hg.setReg hs, hg.setArith, hg.setCC]
  rfl

theorem Unseen.addOp : OpCommutes C g State.addOp := by
  intro r m s hs
  rw [State.addOp, hg.psl, hg.getReg hs, hg.writeAlu _ hs]
  rfl

theorem Unseen.subOp : OpCommutes C g State.subOp := by
  intro r m s hs
  rw [State.subOp, hg.psl, hg.getReg hs, hg.writeAlu _ hs]
  rfl

theorem Unseen.writeLogic (v : Byte) {s : State} (hs : C s) (r : Reg) :
    State.writeLogic r v (g s) = g (State.writeLogic r v s) := by
  rw [State.writeLogic, hg.setReg hs, hg.setCC]
  rfl

theorem Unseen.iorOp : OpCommutes C g State.iorOp := by
  intro r m s hs
  rw [State.iorOp, hg.getReg hs, hg.writeLogic _ hs]
  rfl

theorem Unseen.eorOp : OpCommutes C g State.eorOp := by
  intro r m s hs
  rw [State.eorOp, hg.getReg hs, hg.writeLogic _ hs]
  rfl

theorem Unseen.andOp : OpCommutes C g State.andOp := by
  intro r m s hs
  rw [State.andOp, hg.getReg hs, hg.writeLogic _ hs]
  rfl

theorem Unseen.compareOp : OpCommutes C g State.compareOp := by
  intro r m s hs
  rw [State.compareOp, hg.psl, hg.getReg hs, hg.setCC]
  rfl

theorem Unseen.rotateOp {s : State} (hs : C s) (r : Reg) (res8 : Byte) (res9 : Alu) :
    (g s).rotateOp r res8 res9 = g (s.rotateOp r res8 res9) := by
  rw [State.rotateOp_eq, State.rotateOp_eq, hg.psl, hg.writeAlu _ hs, hg.loadOp _ _ _ hs, apply_ite g]

/-! ### The forms -/

/-- Replacing `s` by `g s` replaces the next state of `x` by its image under `g`. -/
def Commutes (g : State → State) (x : State → Host.Outcome State Fault Refusal) (s : State) : Prop :=
  x (g s) = mapNext g (x s)

omit hg in
theorem next_commutes {x y : State} (h : x = g y) :
    (Host.Outcome.next x : Host.Outcome State Fault Refusal) = mapNext g (.next y) := congrArg Host.Outcome.next h

theorem Unseen.formZ {f : Reg → Byte → State → State} (hf : OpCommutes C g f) (r : Reg) {s : State} (hs : C s) :
    Commutes g (Machine.formZ f r) s :=
  next_commutes (by rw [hg.getReg hs, hf _ _ s hs, hg.retire])

theorem Unseen.formI {f : Reg → Byte → State → State} (hf : OpCommutes C g f) (r : Reg) (v : Byte) {s : State}
    (hs : C s) : Commutes g (Machine.formI f r v) s :=
  next_commutes (by rw [hf _ _ s hs, hg.retire])

theorem Unseen.formR {f : Reg → Byte → State → State} (hf : OpCommutes C g f) (r : Reg) (b : Bool) (d : Disp)
    {s : State} (hs : C s) : Commutes g (Machine.formR f r b d) s := by
  have hea : C (s.eaR b d).2 := hg.accessed (s.accessed_eaR b d) hs
  have hread : C ((s.eaR b d).2.memRead (s.eaR b d).1).2 := hg.accessed (State.accessed_memRead _ _) hea
  unfold Commutes
  rw [formR_eq, formR_eq, hg.eaR hs]
  dsimp only
  rw [hg.memRead hea]
  dsimp only
  rw [hf _ _ _ hread, hg.retire]
  rfl

theorem Unseen.stepIndex {s : State} (hs : C s) (r : Reg) (x : IndexCtl) :
    (g s).stepIndex r x = g (s.stepIndex r x) := by
  cases x with
  | none | plain => rfl
  | inc | dec =>
    unfold State.stepIndex
    dsimp only
    rw [hg.getReg hs, hg.setReg hs]

theorem Unseen.holds_stepIndex {s : State} (hs : C s) (r : Reg) (x : IndexCtl) : C (s.stepIndex r x) :=
  hg.congr (s.stepIndex_cfg r x) (congrArg Psl.rs (s.stepIndex_psl r x)) hs

theorem Unseen.baseA {s : State} (hs : C s) (r : Reg) (b : Bool) (x : IndexCtl) (a : Offset) :
    (g s).baseA r b x a = ((s.baseA r b x a).1, g (s.baseA r b x a).2) := by
  rw [State.baseA, hg.stepIndex hs, State.addrA, hg.pc]
  exact hg.resolve (hg.holds_stepIndex hs r x) b _

theorem Unseen.holds_baseA {s : State} (hs : C s) (r : Reg) (b : Bool) (x : IndexCtl) (a : Offset) :
    C (s.baseA r b x a).2 :=
  hg.accessed (State.accessed_resolve _ _ _) (hg.holds_stepIndex hs r x)

theorem Unseen.addIndex (s : State) (base : Addr) (v : Byte) : (g s).addIndex base v = s.addIndex base v := by
  rw [State.addIndex, hg.cfg]
  rfl

omit hg in
theorem andThen_assoc {α β γ : Type} (x : Host.Outcome α Fault Refusal) (f : α → Host.Outcome β Fault Refusal)
    (k : β → Host.Outcome γ Fault Refusal) : andThen (andThen x f) k = andThen x fun a => andThen (f a) k := by
  cases x <;> rfl

omit hg in
/-- Sequences commute if what they continue with does. -/
theorem andThen_commutes {α : Type} (x : Host.Outcome α Fault Refusal)
    {k k' : α → Host.Outcome State Fault Refusal} (h : ∀ a, x = .next a → k' a = mapNext g (k a)) :
    andThen x k' = mapNext g (andThen x k) := by
  cases x with
  | next a => exact h a rfl
  | fault r => rfl
  | refused r => rfl

/-- `EA_A` of the changed state is that of the state, its last component changed. -/
theorem Unseen.eaA {s : State} (hs : C s) (r : Reg) (b : Bool) (x : IndexCtl) (a : Offset) :
    (g s).eaA r b x a = andThen (s.eaA r b x a) fun e => .next (e.1, e.2.1, g e.2.2) := by
  by_cases hx : x = .none
  · subst hx
    rw [State.eaA_none, State.eaA_none, hg.baseA hs]
    rfl
  · rw [State.eaA_indexed _ r b a hx, State.eaA_indexed _ r b a hx, hg.baseA hs]
    dsimp only
    rw [hg.getReg (hg.holds_baseA hs r b x a), hg.addIndex, andThen_assoc]
    rfl

/-- What follows `EA_A` commutes if it does in the states `EA_A` ends in. -/
theorem Unseen.andThen_eaA {s : State} (hs : C s) (r : Reg) (b : Bool) (x : IndexCtl) (a : Offset)
    {k : Addr × Reg × State → Host.Outcome State Fault Refusal}
    (hk : ∀ ea opr u, C u → k (ea, opr, g u) = mapNext g (k (ea, opr, u))) :
    andThen ((g s).eaA r b x a) k = mapNext g (andThen (s.eaA r b x a) k) := by
  rw [hg.eaA hs, andThen_assoc]
  refine andThen_commutes _ fun e he => ?_
  obtain ⟨hu, -⟩ := State.eaA_next (ea := e.1) (opr := e.2.1) (s1 := e.2.2) he
  exact hk e.1 e.2.1 e.2.2 (hu ▸ hg.holds_baseA hs r b x a)

theorem Unseen.formA {f : Reg → Byte → State → State} (hf : OpCommutes C g f) (r : Reg) (b : Bool) (x : IndexCtl)
    (a : Offset) {s : State} (hs : C s) : Commutes g (Machine.formA f r b x a) s := by
  refine hg.andThen_eaA hs r b x a fun ea opr u hu => ?_
  dsimp only
  rw [hg.memRead hu]
  dsimp only
  rw [hf _ _ _ (hg.accessed (u.accessed_memRead ea) hu), hg.retire]
  rfl

theorem Unseen.andThen_eaX {s : State} (hs : C s) (b : Bool) (a : Addr)
    {k : Addr × State → Host.Outcome State Fault Refusal}
    (hk : ∀ ea u, C u → k (ea, g u) = mapNext g (k (ea, u))) :
    andThen ((g s).eaX b a) k = mapNext g (andThen (s.eaX b a) k) := by
  have hbase : C (s.eaB b a).2 := hg.accessed (s.accessed_eaB b a) hs
  unfold State.eaX
  rw [hg.eaB hs]
  dsimp only
  rw [hg.getReg hbase, hg.addIndex, andThen_assoc, andThen_assoc]
  exact andThen_commutes _ fun ea _ => hk ea _ hbase

omit hg in
theorem ite_commutes {c : Prop} [Decidable c] {x y z w : Host.Outcome State Fault Refusal}
    (hx : x = mapNext g z) (hy : y = mapNext g w) : (if c then x else y) = mapNext g (if c then z else w) := by
  split_ifs
  · exact hx
  · exact hy

theorem Unseen.branchR {taken' taken : Bool} (htest : taken' = taken) (b : Bool) (d : Disp) {s : State} (hs : C s) :
    Machine.branchR taken' b d (g s) = mapNext g (Machine.branchR taken b d s) := by
  rw [htest, branchR_eq, branchR_eq, hg.eaR hs]
  dsimp only
  rw [hg.jump, hg.retire, ← apply_ite g]
  rfl

theorem Unseen.branchB {taken' taken : Bool} (htest : taken' = taken) (b : Bool) (a : Addr) {s : State} (hs : C s) :
    Machine.branchB taken' b a (g s) = mapNext g (Machine.branchB taken b a s) := by
  rw [htest, branchB_eq, branchB_eq, hg.eaB hs]
  dsimp only
  rw [hg.jump, hg.retire, ← apply_ite g]
  rfl

theorem Unseen.callR {taken' taken : Bool} (htest : taken' = taken) (b : Bool) (d : Disp) {s : State} (hs : C s) :
    Machine.callR taken' b d (g s) = mapNext g (Machine.callR taken b d s) := by
  rw [htest, callR_eq, callR_eq, hg.eaR hs]
  dsimp only
  rw [hg.call, hg.retire, ← apply_ite g]
  rfl

theorem Unseen.callB {taken' taken : Bool} (htest : taken' = taken) (b : Bool) (a : Addr) {s : State} (hs : C s) :
    Machine.callB taken' b a (g s) = mapNext g (Machine.callB taken b a s) := by
  rw [htest, callB_eq, callB_eq, hg.eaB hs]
  dsimp only
  rw [hg.call, hg.retire, ← apply_ite g]
  rfl

/-! ### The tests and the instructions outside the forms -/

theorem Unseen.condTrue (s : State) (v : Cond) : (g s).condTrue v = s.condTrue v := by
  rw [State.condTrue, hg.psl]
  rfl

theorem Unseen.condFalse (s : State) (v : Cond) : (g s).condFalse v = s.condFalse v := by
  rw [State.condFalse, hg.psl]
  rfl

theorem Unseen.nonZero {s : State} (hs : C s) (r : Reg) : (g s).nonZero r = s.nonZero r := by
  rw [State.nonZero, hg.getReg hs]
  rfl

theorem Unseen.incReg {s : State} (hs : C s) (r : Reg) : (g s).incReg r = g (s.incReg r) := hg.stepIndex hs r .inc

theorem Unseen.decReg {s : State} (hs : C s) (r : Reg) : (g s).decReg r = g (s.decReg r) := hg.stepIndex hs r .dec

theorem Unseen.holds_setReg {s : State} (hs : C s) (r : Reg) (v : Byte) : C (s.setReg r v) :=
  hg.congr (s.setReg_cfg r v) (congrArg Psl.rs (s.setReg_psl r v)) hs

theorem Unseen.execBirr {s : State} (hs : C s) (r : Reg) (b : Bool) (d : Disp) :
    Commutes g (Machine.execBirr r b d) s := by
  have hinc : C (s.incReg r) := hg.holds_setReg hs r _
  unfold Commutes Machine.execBirr
  rw [hg.incReg hs]
  exact hg.branchR (hg.nonZero hinc r) b d hinc

theorem Unseen.execBira {s : State} (hs : C s) (r : Reg) (b : Bool) (a : Addr) :
    Commutes g (Machine.execBira r b a) s := by
  have hinc : C (s.incReg r) := hg.holds_setReg hs r _
  unfold Commutes Machine.execBira
  rw [hg.incReg hs]
  exact hg.branchB (hg.nonZero hinc r) b a hinc

theorem Unseen.execBdrr {s : State} (hs : C s) (r : Reg) (b : Bool) (d : Disp) :
    Commutes g (Machine.execBdrr r b d) s := by
  have hdec : C (s.decReg r) := hg.holds_setReg hs r _
  unfold Commutes Machine.execBdrr
  rw [hg.decReg hs]
  exact hg.branchR (hg.nonZero hdec r) b d hdec

theorem Unseen.execBdra {s : State} (hs : C s) (r : Reg) (b : Bool) (a : Addr) :
    Commutes g (Machine.execBdra r b a) s := by
  have hdec : C (s.decReg r) := hg.holds_setReg hs r _
  unfold Commutes Machine.execBdra
  rw [hg.decReg hs]
  exact hg.branchB (hg.nonZero hdec r) b a hdec

theorem Unseen.execZbrr {s : State} (hs : C s) (b : Bool) (d : Disp) : Commutes g (exec (.zbrr b d)) s := by
  unfold Commutes
  rw [exec_zbrr, exec_zbrr, hg.eaZ0 hs]
  dsimp only
  rw [hg.jump]
  rfl

theorem Unseen.execZbsr {s : State} (hs : C s) (b : Bool) (d : Disp) : Commutes g (exec (.zbsr b d)) s := by
  unfold Commutes
  rw [exec_zbsr, exec_zbsr, hg.eaZ0 hs]
  dsimp only
  rw [hg.call]
  rfl

theorem Unseen.execStrr {s : State} (hs : C s) (r : Reg) (b : Bool) (d : Disp) :
    Commutes g (Machine.execStrr r b d) s := by
  unfold Commutes Machine.execStrr
  rw [hg.eaR hs]
  dsimp only
  rw [hg.getReg (hg.accessed (s.accessed_eaR b d) hs), hg.memWrite, hg.retire]
  rfl

theorem Unseen.execStra {s : State} (hs : C s) (r : Reg) (b : Bool) (x : IndexCtl) (a : Offset) :
    Commutes g (Machine.execStra r b x a) s := by
  refine hg.andThen_eaA hs r b x a fun ea opr u hu => ?_
  dsimp only
  rw [hg.getReg hu, hg.memWrite, hg.retire]
  rfl

theorem Unseen.execLdpl {s : State} (hs : C s) (b : Bool) (a : Addr) : Commutes g (Machine.execLdpl b a) s := by
  unfold Commutes Machine.execLdpl
  rw [hg.cfg, hg.eaB hs]
  refine ite_commutes rfl ?_
  dsimp only
  rw [hg.memRead (hg.accessed (s.accessed_eaB b a) hs)]
  dsimp only
  rw [hg.setPsl, hg.retire]
  rfl

theorem Unseen.execStpl {s : State} (hs : C s) (b : Bool) (a : Addr) : Commutes g (Machine.execStpl b a) s := by
  unfold Commutes Machine.execStpl
  rw [hg.cfg, hg.eaB hs]
  refine ite_commutes rfl ?_
  dsimp only
  rw [hg.psl, hg.memWrite, hg.retire]
  rfl

theorem Unseen.execDar {s : State} (hs : C s) (r : Reg) : Commutes g (Machine.execDar r) s := by
  unfold Commutes Machine.execDar
  rw [hg.psl, hg.getReg hs, hg.setReg hs, hg.fresh]
  dsimp only
  rw [hg.setCC, hg.retire]
  rfl

theorem Unseen.ioIn (hd : PassesDraws g) {s : State} (hs : C s) (space : IoSpace) (r : Reg) (len : Offset)
    (cyc : Nat) : Commutes g (Machine.ioIn space r len cyc) s := by
  have hread : C (s.ioRead space).2 := hg.accessed (s.accessed_ioRead space) hs
  have hio : (g s).ioRead space = ((s.ioRead space).1, g (s.ioRead space).2) := by
    rw [State.ioRead, hg.emit]
    exact hd.drawIoRead _
  unfold Commutes
  rw [ioIn_eq, ioIn_eq, hio, hg.loadOp _ _ _ hread, hg.retire]
  rfl

theorem Unseen.ioOut {s : State} (hs : C s) (space : IoSpace) (r : Reg) (len : Offset) (cyc : Nat) :
    Commutes g (Machine.ioOut space r len cyc) s := by
  unfold Commutes Machine.ioOut State.ioWrite
  rw [hg.getReg hs, hg.emit, hg.retire]
  rfl

theorem Unseen.execSpsu (hd : PassesDraws g) {s : State} (hs : C s) : Commutes g (exec .spsu) s := by
  have hdrawn : C s.drawSense.2 := hg.accessed s.accessed_drawSense hs
  unfold Commutes
  rw [exec_spsu, exec_spsu, hd.drawSense, hg.psu, hg.loadOp _ _ _ hdrawn, hg.retire]
  rfl

theorem Unseen.execTpsu (hd : PassesDraws g) (s : State) (m : Byte) : Commutes g (exec (.tpsu m)) s := by
  unfold Commutes
  rw [exec_tpsu, exec_tpsu, hd.drawSense, hg.psu, hg.setCC, hg.retire]
  rfl

theorem Unseen.execRetc (s : State) (v : Cond) : Commutes g (Machine.execRetc v) s := by
  unfold Commutes Machine.execRetc
  rw [hg.condTrue, hg.pop]
  refine ite_commutes ?_ ?_
  · dsimp only
    rw [hg.jump]
    rfl
  · rw [hg.retire]
    rfl

theorem Unseen.execRete (s : State) (v : Cond) : Commutes g (Machine.execRete v) s := by
  unfold Commutes Machine.execRete
  rw [hg.condTrue]
  refine ite_commutes ?_ ?_
  · rw [State.returnEnabling_eq, State.returnEnabling_eq, hg.pop]
    dsimp only
    rw [hg.setII, hg.jump]
    rfl
  · rw [hg.retire]
    rfl

end

/-- Every instruction commutes with a change that its operations do not see; the ones that read a pin or a port only if
their draws do not see it either. -/
theorem exec_commutes {C : State → Prop} {g : State → State} (hg : Unseen C g) (i : Instr)
    (hdraws : i.readsEnv = true → PassesDraws g) {s : State} (hs : C s) : exec i (g s) = mapNext g (exec i s) := by
  cases i with
  | undef00 | undef90 | undef91 | undefB6 | undefB7 | undefC4 | undefC5 | undefC6 | undefC7 => rfl
  | lodz r => exact ite_commutes rfl (hg.formZ hg.loadOp r hs)
  | lodi r v => exact hg.formI hg.loadOp r v hs
  | lodr r b d => exact hg.formR hg.loadOp r b d hs
  | loda r b x a => exact hg.formA hg.loadOp r b x a hs
  | addz r => exact hg.formZ hg.addOp r hs
  | addi r v => exact hg.formI hg.addOp r v hs
  | addr r b d => exact hg.formR hg.addOp r b d hs
  | adda r b x a => exact hg.formA hg.addOp r b x a hs
  | subz r => exact hg.formZ hg.subOp r hs
  | subi r v => exact hg.formI hg.subOp r v hs
  | subr r b d => exact hg.formR hg.subOp r b d hs
  | suba r b x a => exact hg.formA hg.subOp r b x a hs
  | iorz r => exact hg.formZ hg.iorOp r hs
  | iori r v => exact hg.formI hg.iorOp r v hs
  | iorr r b d => exact hg.formR hg.iorOp r b d hs
  | iora r b x a => exact hg.formA hg.iorOp r b x a hs
  | eorz r => exact hg.formZ hg.eorOp r hs
  | eori r v => exact hg.formI hg.eorOp r v hs
  | eorr r b d => exact hg.formR hg.eorOp r b d hs
  | eora r b x a => exact hg.formA hg.eorOp r b x a hs
  | andz r => exact ite_commutes rfl (hg.formZ hg.andOp r hs)
  | andi r v => exact hg.formI hg.andOp r v hs
  | andr r b d => exact hg.formR hg.andOp r b d hs
  | anda r b x a => exact hg.formA hg.andOp r b x a hs
  | comz r => exact hg.formZ hg.compareOp r hs
  | comi r v => exact hg.formI hg.compareOp r v hs
  | comr r b d => exact hg.formR hg.compareOp r b d hs
  | coma r b x a => exact hg.formA hg.compareOp r b x a hs
  | strz r =>
    have hr0 : (g s).r0 = s.r0 := hg.getReg hs .r0
    exact ite_commutes rfl (next_commutes (by rw [hr0, hg.loadOp _ _ _ hs, hg.retire]))
  | strr r b d => exact hg.execStrr hs r b d
  | stra r b x a => exact hg.execStra hs r b x a
  | ldpl b a => exact hg.execLdpl hs b a
  | stpl b a => exact hg.execStpl hs b a
  | lpsl =>
    have hr0 : (g s).r0 = s.r0 := hg.getReg hs .r0
    exact next_commutes (by rw [hr0, hg.setPsl, hg.retire])
  | cpsl m | ppsl m => exact next_commutes (by rw [hg.psl, hg.setPsl, hg.retire])
  | lpsu =>
    have hr0 : (g s).r0 = s.r0 := hg.getReg hs .r0
    exact next_commutes (by rw [hr0, hg.selectPsu, hg.retire])
  | cpsu m | ppsu m => exact next_commutes (by rw [hg.selectPsu, hg.retire])
  | spsu => exact hg.execSpsu (hdraws rfl) hs
  | spsl => exact next_commutes (by rw [hg.psl, hg.setReg hs, hg.setCC, hg.retire])
  | tpsu m => exact hg.execTpsu (hdraws rfl) s m
  | tpsl m => exact next_commutes (by rw [hg.psl, hg.setCC, hg.retire])
  | tmi r m => exact next_commutes (by rw [hg.getReg hs, hg.setCC, hg.retire])
  | rrl r | rrr r => exact next_commutes (by rw [hg.getReg hs, hg.psl, hg.rotateOp hs, hg.retire])
  | dar r => exact hg.execDar hs r
  | nop => exact next_commutes (hg.retire s 1 2)
  | halt => exact next_commutes (by rw [hg.retire, hg.setWaiting])
  | redc r => exact hg.ioIn (hdraws rfl) hs .ctrl r 1 2
  | redd r => exact hg.ioIn (hdraws rfl) hs .data r 1 2
  | rede r port => exact hg.ioIn (hdraws rfl) hs (.ext port) r 2 3
  | wrtc r => exact hg.ioOut hs .ctrl r 1 2
  | wrtd r => exact hg.ioOut hs .data r 1 2
  | wrte r port => exact hg.ioOut hs (.ext port) r 2 3
  | bctr v b d => exact hg.branchR (hg.condTrue s v) b d hs
  | bcta v b a => exact hg.branchB (hg.condTrue s v) b a hs
  | bcfr v b d => exact ite_commutes rfl (hg.branchR (hg.condFalse s v) b d hs)
  | bcfa v b a => exact ite_commutes rfl (hg.branchB (hg.condFalse s v) b a hs)
  | brnr r b d => exact hg.branchR (hg.nonZero hs r) b d hs
  | brna r b a => exact hg.branchB (hg.nonZero hs r) b a hs
  | birr r b d => exact hg.execBirr hs r b d
  | bira r b a => exact hg.execBira hs r b a
  | bdrr r b d => exact hg.execBdrr hs r b d
  | bdra r b a => exact hg.execBdra hs r b a
  | zbrr b d => exact hg.execZbrr hs b d
  | bxa b a => exact hg.andThen_eaX hs b a fun ea u _ => next_commutes (hg.jump u ea _)
  | bstr v b d => exact hg.callR (hg.condTrue s v) b d hs
  | bsta v b a => exact hg.callB (hg.condTrue s v) b a hs
  | bsfr v b d => exact ite_commutes rfl (hg.callR (hg.condFalse s v) b d hs)
  | bsfa v b a => exact ite_commutes rfl (hg.callB (hg.condFalse s v) b a hs)
  | bsnr r b d => exact hg.callR (hg.nonZero hs r) b d hs
  | bsna r b a => exact hg.callB (hg.nonZero hs r) b a hs
  | zbsr b d => exact hg.execZbsr hs b d
  | bsxa b a => exact hg.andThen_eaX hs b a fun ea u _ => next_commutes (hg.call u 3 ea _)
  | retc v => exact hg.execRetc s v
  | rete v => exact hg.execRete s v

end Sys2Proof.Machine
end

section
/-! The three changes that no instruction sees: more cycles, another unselected bank, other scripts where all memory is
stored. -/

namespace Sys2Proof.Machine

/-! ### The cycle count (70_reset_and_hazards.md R311) -/

def State.addCycles (n : Nat) (s : State) : State := { s with cycles := s.cycles + n }

theorem unseen_addCycles (n : Nat) : Unseen (fun _ => True) (State.addCycles n) where
  toPassesReads := passesReads_of_withData (fun _ _ => trivial) (fun _ h => by rw [h]; rfl) (fun _ => rfl)
  congr _ _ _ := trivial
  getReg _ _ := rfl
  setReg {s} _ r v := by
    unfold State.setReg State.setBank State.bank State.addCycles
    cases r with
    | r0 => rfl
    | r1 | r2 | r3 => cases s.psl.rs <;> rfl
  psl _ := rfl
  psu _ := rfl
  ras _ := rfl
  waiting _ := rfl
  mem _ := rfl
  cfg _ := rfl
  setPsl _ _ := rfl
  setPsu _ _ := rfl
  setRas _ _ := rfl
  setRun _ _ := rfl
  setMem _ _ := rfl
  emit _ _ := rfl
  fresh _ := rfl
  jump s _ m := by
    unfold State.jump State.addCycles
    rw [Nat.add_right_comm]

theorem passesDraws_addCycles (n : Nat) : PassesDraws (State.addCycles n) where
  drawSense s := by
    have henv : (s.addCycles n).env = s.env := rfl
    unfold State.drawSense
    rw [henv]
    cases s.env.senses <;> rfl
  drawIoRead s := by
    have henv : (s.addCycles n).env = s.env := rfl
    unfold State.drawIoRead
    rw [henv]
    cases s.env.ioReads <;> rfl

/-! ### The unselected bank (10_state.md R22) -/

/-- The bank that RS does not select when it is `rs`, replaced. -/
def State.setOther (rs : Bool) (b : Bank) (s : State) : State :=
  if rs then { s with bank0 := b } else { s with bank1 := b }

theorem unseen_setOther (rs : Bool) (b : Bank) : Unseen (fun s => s.psl.rs = rs) (State.setOther rs b) := by
  have hreads : PassesReads (fun s => s.psl.rs = rs) (State.setOther rs b) :=
    passesReads_of_withData (fun h hs => by rwa [h.psl]) (fun _ h => by rw [h]; cases rs <;> rfl)
      (fun _ => by cases rs <;> rfl)
  have hbank : ∀ s : State, s.psl.rs = rs → (s.setOther rs b).bank = s.bank := by
    intro s hs
    unfold State.bank State.setOther
    cases rs <;> simp [hs]
  have hset : ∀ (s : State) (v : Bank), s.psl.rs = rs → (s.setOther rs b).setBank v = (s.setBank v).setOther rs b := by
    intro s v hs
    unfold State.setBank State.setOther
    cases rs <;> simp [hs]
  constructor
  case toPassesReads => exact hreads
  case congr => exact fun _ hrs hs => hrs.trans hs
  case getReg =>
    intro s hs r
    unfold State.getReg
    rw [hbank s hs]
    cases rs <;> rfl
  case setReg =>
    intro s hs r v
    cases r with
    | r0 => cases rs <;> rfl
    | r1 | r2 | r3 =>
      unfold State.setReg
      dsimp only
      rw [hbank s hs, hset s _ hs]
  all_goals intros; cases rs <;> rfl

theorem passesDraws_setOther (rs : Bool) (b : Bank) : PassesDraws (State.setOther rs b) where
  drawSense s := by
    have henv : (s.setOther rs b).env = s.env := by cases rs <;> rfl
    unfold State.drawSense
    rw [henv]
    cases s.env.senses <;> cases rs <;> rfl
  drawIoRead s := by
    have henv : (s.setOther rs b).env = s.env := by cases rs <;> rfl
    unfold State.drawIoRead
    rw [henv]
    cases s.env.ioReads <;> cases rs <;> rfl

/-! ### The scripts, where every address answers its stored byte (60_exceptions.md R272) -/

def State.setEnv (e : Env) (s : State) : State := { s with env := e }

theorem State.stored_congr {s t : State} (h : t.cfg = s.cfg) {a : Addr} (hs : s.stored a) : t.stored a := by
  rwa [State.stored, State.kindAt_congr h]

theorem unseen_setEnv (e : Env) : Unseen (fun s => ∀ a, s.stored a) (State.setEnv e) where
  accessed h hs a := State.stored_congr h.cfg (hs a)
  pc _ := rfl
  memRead {s} hs a := by
    have hchanged : (s.setEnv e).stored a := hs a
    rw [State.memRead_stored hchanged, State.memRead_stored (hs a)]
    rfl
  congr hcfg _ hs a := State.stored_congr hcfg (hs a)
  getReg _ _ := rfl
  setReg {s} _ r v := by
    unfold State.setReg State.setBank State.bank State.setEnv
    cases r with
    | r0 => rfl
    | r1 | r2 | r3 => cases s.psl.rs <;> rfl
  psl _ := rfl
  psu _ := rfl
  ras _ := rfl
  waiting _ := rfl
  mem _ := rfl
  cfg _ := rfl
  setPsl _ _ := rfl
  setPsu _ _ := rfl
  setRas _ _ := rfl
  setRun _ _ := rfl
  setMem _ _ := rfl
  emit _ _ := rfl
  fresh _ := rfl
  jump _ _ _ := rfl

/-! ### Completion (60_exceptions.md R270) and the terms that are no instructions -/

/-- The instruction answers a next state. -/
def Completes (i : Instr) (s : State) : Prop := ∃ t, exec i s = .next t

theorem Runs.completes {i : Instr} {s : State} {v : View} (h : Runs i s v) : Completes i s := by
  obtain ⟨t, hexec, -⟩ := h
  exact ⟨t, hexec⟩

theorem completes_formA {f : Reg → Byte → State → State} {i : Instr} {r : Reg} {b : Bool} {x : IndexCtl}
    {a : Offset} {s : State} (hwrap : s.cfg.indexWrap = .wrap) (hexec : exec i s = formA f r b x a s) :
    Completes i s := ⟨_, hexec.trans (formA_of_fits (.inr (.inl hwrap)))⟩

/-- A well-formed instruction that is no undefined row completes where LDPL and STPL are instructions and index additions
wrap. -/
theorem exec_completes {i : Instr} {s : State} (hwf : i.wellFormed = true) (hrow : i ∉ undefinedRows.map Prod.fst)
    (hvariant : s.cfg.variant = .p2650B) (hwrap : s.cfg.indexWrap = .wrap) : Completes i s := by
  cases i with
  | undef00 | undef90 | undef91 | undefB6 | undefB7 | undefC4 | undefC5 | undefC6 | undefC7 =>
    exact absurd (by simp [undefinedRows]) hrow
  | lodz r | strz r | andz r =>
    have hr : r ≠ .r0 := by simpa [Instr.wellFormed] using hwf
    exact ⟨_, if_neg hr⟩
  | ldpl b a => exact ⟨_, exec_ldpl b a hvariant⟩
  | stpl b a => exact ⟨_, exec_stpl b a hvariant⟩
  | loda | adda | suba | iora | eora | anda | coma => exact completes_formA hwrap rfl
  | stra r b x a => exact ⟨_, exec_stra_of_fits (.inr (.inl hwrap))⟩
  | bxa b a => exact ⟨_, exec_bxa_of_fits (.inl hwrap)⟩
  | bsxa b a => exact ⟨_, exec_bsxa_of_fits (.inl hwrap)⟩
  | bctr | brnr | birr | bdrr => exact ⟨_, branchR_eq _ _ _ _⟩
  | bcta | brna | bira | bdra => exact ⟨_, branchB_eq _ _ _ _⟩
  | bstr | bsnr => exact ⟨_, callR_eq _ _ _ _⟩
  | bsta | bsna => exact ⟨_, callB_eq _ _ _ _⟩
  | bcfr v b d =>
    have hv : v ≠ .un := by simpa [Instr.wellFormed] using hwf
    exact ⟨_, (exec_bcfr hv b d s).trans (branchR_eq _ _ _ _)⟩
  | bcfa v b a =>
    have hv : v ≠ .un := by simpa [Instr.wellFormed] using hwf
    exact ⟨_, (exec_bcfa hv b a s).trans (branchB_eq _ _ _ _)⟩
  | bsfr v b d =>
    have hv : v ≠ .un := by simpa [Instr.wellFormed] using hwf
    exact ⟨_, (exec_bsfr hv b d s).trans (callR_eq _ _ _ _)⟩
  | bsfa v b a =>
    have hv : v ≠ .un := by simpa [Instr.wellFormed] using hwf
    exact ⟨_, (exec_bsfa hv b a s).trans (callB_eq _ _ _ _)⟩
  | retc v => exact ⟨_, exec_retc v s⟩
  | rete v => exact ⟨_, exec_rete v s⟩
  | _ => exact ⟨_, rfl⟩

theorem exec_illFormed {i : Instr} (s : State) (h : i.wellFormed = false) : exec i s = .refused .illFormed := by
  cases i with
  | lodz r | strz r | andz r =>
    have hr : r = .r0 := by simpa [Instr.wellFormed] using h
    exact if_pos hr
  | bcfr v | bcfa v | bsfr v | bsfa v =>
    have hv : v = .un := by simpa [Instr.wellFormed] using h
    exact if_pos hv
  | _ => cases h

end Sys2Proof.Machine

namespace Sys2Proof.Proofs
open Sys2Proof.Machine

/-- Settles O13: what is left to refuse are the nine rows, which the hypothesis excludes. -/
theorem definedInstructionsComplete : Obligations.DefinedInstructionsComplete := by
  intro i s hwf hrow hvariant hwrap
  refine exec_completes hwf (fun hmem => ?_) hvariant hwrap
  obtain ⟨⟨j, b⟩, hrows, rfl⟩ := List.mem_map.mp hmem
  exact hrow b hrows

/-- Settles O20: no operation reads or writes the bank that RS does not select, and RS changes only as an instruction
ends. -/
theorem unselectedBankIsOutOfReach : Obligations.UnselectedBankIsOutOfReach := by
  intro i s b
  exact ⟨exec_commutes (unseen_setOther false b) i fun _ => passesDraws_setOther false b,
    exec_commutes (unseen_setOther true b) i fun _ => passesDraws_setOther true b⟩

/-- Settles O21: in stored memory no read draws from the scripts, and the instruction draws no pin or port. -/
theorem environmentIndependence : Obligations.EnvironmentIndependence := by
  intro i s e hreads hstored
  exact exec_commutes (unseen_setEnv e) i (fun h => absurd h (ne_true_of_eq_false hreads)) hstored

/-- Settles O22: no operation reads the cycle count, and each adds to it. -/
theorem cyclesInfluenceNothing : Obligations.CyclesInfluenceNothing :=
  fun i _ n => exec_commutes (unseen_addCycles n) i (fun _ => passesDraws_addCycles n) trivial

/-- Settles O25, by the seven ill-formed heads. -/
theorem illFormedTermsAreRefused : Obligations.IllFormedTermsAreRefused := fun _ s h => exec_illFormed s h

end Sys2Proof.Proofs
end

section
/-! The BCD procedures of the manual (41_arithmetic.md R164): DAR on two digits kept six in excess, the two decimal facts
that rest on it, and what ADDI, SUBI and DAR leave in their register and in PSL. -/

namespace Sys2Proof.Machine

/-! ### Two decimal digits in a byte -/

/-- The byte of a number's last two decimal digits. -/
def bcdCode (n : Nat) : Nat := n / 10 % 10 * 16 + n % 10

theorem bcdCode_eq {x : Nat} (hx : x < 100) : bcdCode x = x / 10 * 16 + x % 10 := by
  unfold bcdCode
  omega

/-- The byte DAR makes of the last eight bits of a number when it adds `high` and `low` to the digits. -/
def adjustDigits (n high low : Nat) : Nat := (n % 256 / 16 + high) % 16 * 16 + (n % 256 % 16 + low) % 16

theorem adjustDigits_of_nibbles (t : Nat) {u : Nat} (high low : Nat) (hu : u < 16) :
    adjustDigits (t * 16 + u) high low = (t + high) % 16 * 16 + (u + low) % 16 := by
  have hhigh : (t * 16 + u) % 256 / 16 = t % 16 := by omega
  have hlow : (t * 16 + u) % 256 % 16 = u := by omega
  rw [adjustDigits, hhigh, hlow, Nat.mod_add_mod]

/-- A digit's sum with six in excess loses the six by the binary carry it made, or by ten modulo 16. -/
theorem excess_six_adjusted {d : Nat} (hd : d < 20) : (d + 6 + if 10 ≤ d then 0 else 10) % 16 = d % 10 := by
  split_ifs <;> omega

/-- What DAR makes of two digits `t` and `u`, each up to 19 and six in excess, the carry of `u` counted in `t`. -/
theorem adjustDigits_of_excess_six {t u : Nat} (ht : t < 20) (hu : u < 20) :
    adjustDigits ((t + 6) * 16 + (u + 6) % 16) (if 10 ≤ t then 0 else 10) (if 10 ≤ u then 0 else 10) =
      t % 10 * 16 + u % 10 := by
  rw [adjustDigits_of_nibbles _ _ _ (Nat.mod_lt _ (by decide)), Nat.mod_add_mod, excess_six_adjusted ht,
    excess_six_adjusted hu]

/-- Six added to each digit makes a decimal carry a binary one. -/
theorem bcd_sum_digits {x y : Nat} (hx : x < 100) (hy : y < 100) :
    adjustDigits (bcdCode x + 0x66 + bcdCode y) (if 256 ≤ bcdCode x + 0x66 + bcdCode y then 0 else 10)
        (if 16 ≤ (bcdCode x + 0x66) % 16 + bcdCode y % 16 then 0 else 10) = bcdCode (x + y) ∧
      (256 ≤ bcdCode x + 0x66 + bcdCode y ↔ 100 ≤ x + y) := by
  obtain ⟨u, hu⟩ : ∃ u, u = x % 10 + y % 10 := ⟨_, rfl⟩
  obtain ⟨t, ht⟩ : ∃ t, t = x / 10 + y / 10 + u / 10 := ⟨_, rfl⟩
  have hxcode := bcdCode_eq hx
  have hycode := bcdCode_eq hy
  have hsum : bcdCode x + 0x66 + bcdCode y = (t + 6) * 16 + (u + 6) % 16 := by omega
  have hhigh : 256 ≤ bcdCode x + 0x66 + bcdCode y ↔ 10 ≤ t := by omega
  have hlow : 16 ≤ (bcdCode x + 0x66) % 16 + bcdCode y % 16 ↔ 10 ≤ u := by omega
  have hcode : bcdCode (x + y) = t % 10 * 16 + u % 10 := by
    unfold bcdCode
    omega
  simp only [hhigh, hlow]
  rw [hsum, hcode]
  exact ⟨adjustDigits_of_excess_six (by omega) (by omega), by omega⟩

/-- A digit from which no borrow came is taken as 16 up and one from which a borrow came as it is: six in excess of 10
up and of itself. -/
theorem bcd_difference_digits {x y : Nat} (hx : x < 100) (hy : y < 100) :
    adjustDigits (bcdCode x + 256 - bcdCode y) (if bcdCode y ≤ bcdCode x then 0 else 10)
        (if bcdCode y % 16 ≤ bcdCode x % 16 then 0 else 10) = bcdCode (x + 100 - y) ∧
      (bcdCode y ≤ bcdCode x ↔ y ≤ x) := by
  obtain ⟨u, hu⟩ : ∃ u, u = x % 10 + 10 - y % 10 := ⟨_, rfl⟩
  obtain ⟨t, ht⟩ : ∃ t, t = x / 10 + 9 - y / 10 + u / 10 := ⟨_, rfl⟩
  have hxcode := bcdCode_eq hx
  have hycode := bcdCode_eq hy
  have hdiff : bcdCode x + 256 - bcdCode y = (t + 6) * 16 + (u + 6) % 16 := by omega
  have hhigh : bcdCode y ≤ bcdCode x ↔ 10 ≤ t := by omega
  have hlow : bcdCode y % 16 ≤ bcdCode x % 16 ↔ 10 ≤ u := by omega
  have hcode : bcdCode (x + 100 - y) = t % 10 * 16 + u % 10 := by
    unfold bcdCode
    omega
  simp only [hhigh, hlow]
  rw [hdiff, hcode]
  exact ⟨adjustDigits_of_excess_six (by omega) (by omega), by omega⟩

theorem bcdCode_le (n : Nat) : bcdCode n ≤ 0x99 := by
  unfold bcdCode
  omega

/-! ### What an instruction leaves in its register and in PSL -/

/-- The register that a state's view shows written in its selected bank. -/
theorem x_of_cell_written {c : Bool → Reg → Byte} {bank : Bool} {r : Reg} {v : Byte} {t : State}
    (hcell : t.cell = setCell c bank r v) (hrs : t.psl.rs = bank) : t.x r = v := by
  rw [State.x, hcell, hrs]
  exact if_pos ⟨rfl, .inr rfl⟩

/-- What an immediate instruction that keeps RS leaves. -/
theorem leaves_of_runsI {ins : Reg → Byte → Instr} {eff : Psl → Byte → Byte → Byte × Psl} (h : RunsI ins eff)
    (hrs : ∀ p a m, (eff p a m).2.rs = p.rs) (r : Reg) (v : Byte) (s : State) :
    ∃ t, exec (ins r v) s = .next t ∧ t.x r = (eff s.psl (s.x r) v).1 ∧ t.psl = (eff s.psl (s.x r) v).2 := by
  obtain ⟨t, hexec, hview⟩ := h r v s
  have hpsl : t.psl = (eff s.psl (s.x r) v).2 := congrArg View.psl hview
  exact ⟨t, hexec, x_of_cell_written (congrArg View.cell hview) (by rw [hpsl, hrs]), hpsl⟩

theorem byte_ofNat_toNat {n : Nat} (hn : n < 256) : (BitVec.ofNat 8 n).toNat = n := by
  rw [BitVec.toNat_ofNat, Nat.mod_eq_of_lt hn]

/-- ADDI without a carry in. -/
theorem addi_leaves {r : Reg} {s : State} {a m : Nat} (hwc : s.psl.wc = false) (hx : s.x r = BitVec.ofNat 8 a)
    (ha : a < 256) (hm : m < 256) :
    ∃ t, exec (.addi r (BitVec.ofNat 8 m)) s = .next t ∧ t.x r = BitVec.ofNat 8 (a + m) ∧ t.psl.wc = false ∧
      t.psl.c = decide (256 ≤ a + m) ∧ t.psl.idc = decide (16 ≤ a % 16 + m % 16) := by
  obtain ⟨t, hexec, hres, hpsl⟩ := leaves_of_runsI (runsI_of_hasEffect (ins := .addi) (fun _ _ _ => rfl) addOp_hasEffect)
    (fun _ _ _ => rfl) r (BitVec.ofNat 8 m) s
  rw [hx] at hres hpsl
  refine ⟨t, hexec, ?_, ?_, ?_, ?_⟩
  · simp [hres, addEffect, hwc, byte_ofNat_toNat ha, byte_ofNat_toNat hm]
  · rw [hpsl]
    exact hwc
  · simp [hpsl, addEffect, hwc, byte_ofNat_toNat ha, byte_ofNat_toNat hm]
  · simp [hpsl, addEffect, hwc, byte_ofNat_toNat ha, byte_ofNat_toNat hm]

theorem byte_ofInt_sub {a m : Nat} (hm : m < 256) : BitVec.ofInt 8 ((a : Int) - m) = BitVec.ofNat 8 (a + 256 - m) := by
  apply BitVec.eq_of_toNat_eq
  rw [BitVec.toNat_ofInt, BitVec.toNat_ofNat]
  omega

/-- SUBI without a borrow in. -/
theorem subi_leaves {r : Reg} {s : State} {a m : Nat} (hwc : s.psl.wc = false) (hx : s.x r = BitVec.ofNat 8 a)
    (ha : a < 256) (hm : m < 256) :
    ∃ t, exec (.subi r (BitVec.ofNat 8 m)) s = .next t ∧ t.x r = BitVec.ofNat 8 (a + 256 - m) ∧
      t.psl.c = decide (m ≤ a) ∧ t.psl.idc = decide (m % 16 ≤ a % 16) := by
  obtain ⟨t, hexec, hres, hpsl⟩ := leaves_of_runsI (runsI_of_hasEffect (ins := .subi) (fun _ _ _ => rfl) subOp_hasEffect)
    (fun _ _ _ => rfl) r (BitVec.ofNat 8 m) s
  rw [hx] at hres hpsl
  refine ⟨t, hexec, ?_, ?_, ?_⟩
  · simp [hres, subEffect, hwc, byte_ofNat_toNat ha, byte_ofNat_toNat hm, byte_ofInt_sub hm]
  · simp [hpsl, subEffect, hwc, byte_ofNat_toNat ha, byte_ofNat_toNat hm]
  · rw [hpsl]
    refine decide_eq_decide.2 ?_
    simp only [hwc, byte_ofNat_toNat ha, byte_ofNat_toNat hm, Bool.false_eq_true, false_and, if_false]
    omega

theorem dar_leaves {r : Reg} {s : State} {n : Nat} {p q : Prop} [Decidable p] [Decidable q]
    (hx : s.x r = BitVec.ofNat 8 n) (hc : s.psl.c = decide p) (hidc : s.psl.idc = decide q) :
    ∃ t, exec (.dar r) s = .next t ∧
      t.x r = BitVec.ofNat 8 (adjustDigits n (if p then 0 else 10) (if q then 0 else 10)) ∧ t.psl.c = decide p := by
  obtain ⟨cc, t, hexec, hview⟩ := Proofs.decimalAdjustDigits r s
  have hpsl : t.psl = { s.psl with cc := cc } := congrArg View.psl hview
  refine ⟨t, hexec, ?_, by rw [hpsl, ← hc]⟩
  rw [x_of_cell_written (congrArg View.cell hview) (by rw [hpsl]), hx, hc, hidc, BitVec.toNat_ofNat]
  simp [adjustDigits]

end Sys2Proof.Machine

namespace Sys2Proof.Proofs
open Sys2Proof.Machine

/-- Settles O48: the digits stand six in excess when DAR adjusts them, in the sum by the $66 and in the difference by the
16 a borrow is worth. -/
theorem bcdProcedures : Obligations.BcdProcedures := by
  intro r s x y hx hy hwc _ hxcode
  have hxle := bcdCode_le x
  have hyle := bcdCode_le y
  constructor
  · obtain ⟨t1, hadd66, hx1, hwc1, -, -⟩ := addi_leaves (m := 0x66) hwc hxcode (a := bcdCode x) (by omega) (by decide)
    obtain ⟨t2, haddy, hx2, -, hc2, hidc2⟩ := addi_leaves (m := bcdCode y) hwc1 hx1 (by omega) (by omega)
    obtain ⟨t3, hdar, hx3, hc3⟩ := dar_leaves hx2 hc2 hidc2
    obtain ⟨hdigits, hcarry⟩ := bcd_sum_digits hx hy
    exact ⟨t1, t2, t3, hadd66, haddy, hdar, hx3.trans (congrArg _ hdigits), hc3.trans (decide_eq_decide.2 hcarry)⟩
  · obtain ⟨t1, hsub, hx1, hc1, hidc1⟩ :=
      subi_leaves (m := bcdCode y) hwc hxcode (a := bcdCode x) (by omega) (by omega)
    obtain ⟨t2, hdar, hx2, hc2⟩ := dar_leaves hx1 hc1 hidc1
    obtain ⟨hdigits, hborrow⟩ := bcd_difference_digits hx hy
    exact ⟨t1, t2, hsub, hdar, hx2.trans (congrArg _ hdigits), hc2.trans (decide_eq_decide.2 hborrow)⟩

end Sys2Proof.Proofs
end
